-- ==== Sys2Proof/Word.lean ====
section
/-! DEFINITION. The word types of STARCODER-CORE (00_scope.md R16): plain bit vectors, bit 0 the least significant bit. -/

namespace Sys2Proof

/-- A byte of buffer memory (20_memory.md R80). -/
abbrev Byte := BitVec 8

/-- A 32-bit register, command word or bus word (10_state.md, 30_encoding.md R101). -/
abbrev Word := BitVec 32

/-- A 64-bit register (10_state.md R53-R57, R60). -/
abbrev DWord := BitVec 64

end Sys2Proof
end

