-- ==== Sys2Proof/Syntax.lean ====
section
/-! DEFINITION. The block's instructions: the 17 commands of 30_encoding.md R106, one constructor per row of the opcode map. `u` is the unit
field of formats U and C, `sel` the polynomial field of format C; "each is used as an unsigned number" (R105). Every other operand
of a command comes from the snapshot `S.snap` (R62, R105), not from the word. -/

namespace Sys2Proof

/-- One command (30_encoding.md R106). -/
inductive Instr where
  /-- R230: does nothing except complete. -/
  | nop
  /-- R125: configure PRBS unit `u` with polynomial `sel`. -/
  | pcfg (u sel : Nat)
  /-- R126: `generate(n)` on unit `u`. -/
  | pgen (u : Nat)
  /-- R127: `generate_after_offset(n, x)` on unit `u`. -/
  | pgeno (u : Nat)
  /-- R128: one sequence packet of unit `u`. -/
  | pseq (u : Nat)
  /-- R145: encode one 12-bit group. -/
  | genc
  /-- R146: decode one 24-bit block. -/
  | gdec
  /-- R147: encode a framed packet. -/
  | gencf
  /-- R148: decode a framed message. -/
  | gdecf
  /-- R170: configure the verifier. -/
  | vcfg
  /-- R171: one packet on the "all packets seen" channel. -/
  | vseen
  /-- R172: one packet on the "corrected packets" channel. -/
  | vpkt
  /-- R173: finalize the statistics. -/
  | vfin
  /-- R200: interpolate a sample table. -/
  | dinterp
  /-- R201: convert one range rate to shifts. -/
  | dshift
  /-- R202: start the scheduler. -/
  | dstart
  /-- R203: stop the scheduler. -/
  | dstop
deriving DecidableEq, Repr

end Sys2Proof
end

