-- ==== Sys2Proof/WellFormed.lean ====
section
/-! DEFINITION. Which instructions fit their encoding, and which 32-bit words are legal commands, each said from the formats of
30_encoding.md R102-R104 and the opcode map R106, apart from the decoder. -/

namespace Sys2Proof

/-- The fields of an instruction fit its format: `U` has 1 bit and `SEL` has 2 (R103, R104). -/
def Instr.wellFormed : Instr → Bool
  | .pcfg u sel => decide (u < 2) && decide (sel < 4)
  | .pgen u | .pgeno u | .pseq u => decide (u < 2)
  | .nop | .genc | .gdec | .gencf | .gdecf | .vcfg | .vseen | .vpkt | .vfin => true
  | .dinterp | .dshift | .dstart | .dstop => true

/-- The three command formats (R102, R103, R104). -/
inductive Format where
  | n | u | c
deriving DecidableEq, Repr

/-- The format an opcode selects, `none` for an opcode that R106 does not assign (R101, R107). -/
def formatOf (opc : Nat) : Option Format :=
  if opc = 0x10 then some .c
  else if 0x11 ≤ opc ∧ opc ≤ 0x13 then some .u
  else if opc = 0x00 ∨ (0x20 ≤ opc ∧ opc ≤ 0x23) ∨ (0x30 ≤ opc ∧ opc ≤ 0x33) ∨ (0x40 ≤ opc ∧ opc ≤ 0x43) then some .n
  else none

/-- The reserved bits of a format, which must be zero (R107). -/
def Format.reserved : Format → Word
  | .n => 0x00FFFFFF
  | .u => 0x007FFFFF
  | .c => 0x007FFFFC

/-- R107: a word is a legal command when its opcode is assigned and every reserved bit of its format is 0. -/
def legalWord (w : Word) : Bool :=
  match formatOf (w.toNat / 2 ^ 24) with
  | none => false
  | some f => w &&& f.reserved == 0

end Sys2Proof
end

