-- ==== Sys2Proof/Decode.lean ====
section
/-! DEFINITION. The decoder of 30_encoding.md R108, total on every 32-bit word, and after it the encoder, written from the formats
R102-R104 and the opcode map R106. -/

namespace Sys2Proof

/-- Why a word is no command (R107). Either way the command completes with `ILLEGAL_CMD`: it is no refusal of the model. -/
inductive DecodeError where
  /-- `OPC` is not in the table of R106. -/
  | unassignedOpcode (opc : BitVec 8)
  /-- A reserved bit of the format is 1. -/
  | reservedBits (opc : BitVec 8)
deriving DecidableEq, Repr

/-- R101: bits 31:24 of every word are the opcode. -/
def opcField (w : Word) : BitVec 8 := w.extractLsb' 24 8

/-- R103, R104: the unit-select field, bit 23. -/
def uField (w : Word) : BitVec 1 := w.extractLsb' 23 1

/-- R104: the polynomial index, bits 1:0. -/
def selField (w : Word) : BitVec 2 := w.extractLsb' 0 2

/-- Format N (R102): bits 23:0 are reserved. -/
def decodeN (w : Word) (i : Instr) : Except DecodeError Instr :=
  if w.extractLsb' 0 24 = 0#24 then .ok i else .error (.reservedBits (opcField w))

/-- Format U (R103): bit 23 is `U`, bits 22:0 are reserved. -/
def decodeU (w : Word) (mk : Nat → Instr) : Except DecodeError Instr :=
  if w.extractLsb' 0 23 = 0#23 then .ok (mk (uField w).toNat) else .error (.reservedBits (opcField w))

/-- Format C (R104): bit 23 is `U`, bits 22:2 are reserved, bits 1:0 are `SEL`. -/
def decodeC (w : Word) (mk : Nat → Nat → Instr) : Except DecodeError Instr :=
  if w.extractLsb' 2 21 = 0#21 then .ok (mk (uField w).toNat (selField w).toNat)
  else .error (.reservedBits (opcField w))

/-- R108: decoding, total on every 32-bit word; the opcode alone selects the format (R101). -/
def decode (w : Word) : Except DecodeError Instr :=
  match (opcField w).toNat with
  | 0x00 => decodeN w .nop
  | 0x10 => decodeC w .pcfg
  | 0x11 => decodeU w .pgen
  | 0x12 => decodeU w .pgeno
  | 0x13 => decodeU w .pseq
  | 0x20 => decodeN w .genc
  | 0x21 => decodeN w .gdec
  | 0x22 => decodeN w .gencf
  | 0x23 => decodeN w .gdecf
  | 0x30 => decodeN w .vcfg
  | 0x31 => decodeN w .vseen
  | 0x32 => decodeN w .vpkt
  | 0x33 => decodeN w .vfin
  | 0x40 => decodeN w .dinterp
  | 0x41 => decodeN w .dshift
  | 0x42 => decodeN w .dstart
  | 0x43 => decodeN w .dstop
  | _ => .error (.unassignedOpcode (opcField w))

/-- A format N word: the opcode and 24 zero bits (R102). -/
def encodeN (opc : BitVec 8) : Word := opc ++ 0#24

/-- A format U word: the opcode, `U` and 23 zero bits (R103). -/
def encodeU (opc : BitVec 8) (u : Nat) : Word := opc ++ BitVec.ofNat 1 u ++ 0#23

/-- A format C word: the opcode, `U`, 21 zero bits and `SEL` (R104). -/
def encodeC (opc : BitVec 8) (u sel : Nat) : Word := opc ++ BitVec.ofNat 1 u ++ 0#21 ++ BitVec.ofNat 2 sel

/-- The word of an instruction, by the opcode map R106. -/
def encode : Instr → Word
  | .nop => encodeN 0x00
  | .pcfg u sel => encodeC 0x10 u sel
  | .pgen u => encodeU 0x11 u
  | .pgeno u => encodeU 0x12 u
  | .pseq u => encodeU 0x13 u
  | .genc => encodeN 0x20
  | .gdec => encodeN 0x21
  | .gencf => encodeN 0x22
  | .gdecf => encodeN 0x23
  | .vcfg => encodeN 0x30
  | .vseen => encodeN 0x31
  | .vpkt => encodeN 0x32
  | .vfin => encodeN 0x33
  | .dinterp => encodeN 0x40
  | .dshift => encodeN 0x41
  | .dstart => encodeN 0x42
  | .dstop => encodeN 0x43

/-- The word an opcode-table row's bits stand for: `nbits` bits of `w`, every bit above them 0. A command is one 32-bit word (R101),
delivered whole by the `CMD` write (R94), so there is no byte order to lay out. -/
def tableWord (nbits w : Nat) : Word := BitVec.ofNat 32 (w % 2 ^ nbits)

/-- The instruction the decoder reads from an opcode-table row's bits. -/
def decodeTableWord (nbits w : Nat) : Option Instr :=
  match decode (tableWord nbits w) with
  | .ok i => some i
  | .error _ => none

end Sys2Proof
end

