-- ==== Sys2Proof/Config.lean ====
section
/-! DEFINITION. The parameters of 00_scope.md R14 at the defaults the spec fixes for the hardware (log 5), the constants of R15, and the
two values the spec leaves open, which have no body: where the block stands on the bus (log 6) and what BUF holds after power-on (log 4). -/

namespace Sys2Proof.Config

/-- R14 `BUF_SIZE`: bytes of buffer memory. DESIGN CHOICE (log 5): the default. -/
def bufSize : Nat := 65536

/-- R14 `MAX_EXPECTED`: entries of the verifier's per-index array. DESIGN CHOICE (log 5): the default. -/
def maxExpected : Nat := 65536

/-- R14 `MAX_CYCLE_LEN`: the largest accepted `reset_len`. DESIGN CHOICE (log 5): the default. -/
def maxCycleLen : Nat := 4294967295

/-- R14 `TICK_NS`: nanoseconds added to `D_NOW` per tick. DESIGN CHOICE (log 5): the default. -/
def tickNs : Nat := 10

/-- R14 `ID_VALUE`, the value of the `ID` register (R32). DESIGN CHOICE (log 5): the default. -/
def idValue : Word := 0x53430001

/-- R14 `GOLAY_B`: row `i` of the parity matrix is the parity contribution of data bit `d_i`, with `p_0` in bit 11 (41_golay.md R140).
DESIGN CHOICE (log 5): the default. -/
def golayRows : List (BitVec 12) :=
  [0xDC5, 0xB8B, 0x717, 0xE2D, 0xC5B, 0x8B7, 0x16F, 0x2DD, 0x5B9, 0xB71, 0x6E3, 0xFFE]

/-- R14 `PRBS_POLY`: the tap sets of `SEL` = 0, 1, 2, 3, that is PRBS7, PRBS15, PRBS23 and PRBS31 (40_prbs.md R120).
DESIGN CHOICE (log 5): the default. -/
def prbsPoly : List (List Nat) :=
  [[0, 6, 7], [0, 14, 15], [0, 18, 23], [0, 28, 31]]

/-- R15: the speed of light in metres per second. -/
def lightSpeed : Nat := 299792458

/-- R14 `BLOCK_BASE` is "any aligned address" and is left to the platform: this is a quarter of it. No body: a free value (log 6). -/
opaque blockBaseQuarter : Nat

/-- R14, R98 `BLOCK_BASE`: the host bus address of offset 0, word-aligned. -/
def blockBase : Nat := 4 * blockBaseQuarter

/-- U4, R280: what the byte at an address of BUF holds after power-on, "any value in 0..255". No body: a free value (log 4). -/
opaque powerOnByte : Nat → Byte

end Sys2Proof.Config
end

