-- ==== Sys2Proof/Machine/State.lean ====
section
/-! DEFINITION. The state of STARCODER-CORE as plain data: every register and hidden field of 10_state.md, grouped by unit as that file
groups them, with the model's own agenda and bus response beside them (log 1, log 9). -/

namespace Sys2Proof.Machine

/-- Buffer memory BUF (20_memory.md R80) as (address, byte) pairs, addresses strictly rising. An unlisted address has no written value:
what such a byte reads as is `Config.powerOnByte` (log 4). -/
abbrev Memory := List Host.Cell

/-- R62 `S.snap`: the operand registers as they stood when the `CMD` write was accepted. -/
structure Snapshot where
  arg0 : Word
  arg1 : Word
  arg2 : Word
  arg3 : Word
  gDin : BitVec 12
  gCin : BitVec 24
  gPre : Word
  gPost : Word
  dRr : DWord
  dFdl : DWord
  dFul : DWord
deriving DecidableEq, Repr

/-- Global control registers and the command engine's state (10_state.md R33-R40, R62). -/
structure Ctl where
  /-- R33, R62 `S.cmd`: the accepted command word. -/
  cmd : Word
  /-- R62 `S.busy`, the bit `STATUS.BUSY`. -/
  busy : Bool
  snap : Snapshot
  /-- R35 `RESULT`. -/
  result : Word
  /-- R36 `IRQ_PEND`: the six bits that exist. -/
  irqPend : BitVec 6
  /-- R37 `IRQ_EN`: the six bits that exist. -/
  irqEn : BitVec 6
  arg0 : Word
  arg1 : Word
  arg2 : Word
  arg3 : Word
  res0 : Word
  res1 : Word
deriving DecidableEq, Repr

/-- The Golay unit's registers (10_state.md R41-R47). -/
structure GolayRegs where
  din : BitVec 12
  cout : BitVec 24
  cin : BitVec 24
  dout : BitVec 12
  dstat : Word
  pre : Word
  post : Word
  fblk : Word
  func : Word
  fcor : Word
deriving DecidableEq, Repr

/-- One PRBS unit (10_state.md R48). -/
structure PrbsUnit where
  poly : BitVec 2
  len : Word
  cur : Word
  reg : Word
deriving DecidableEq, Repr

/-- The verifier's registers and hidden state (10_state.md R49-R52, R63). -/
structure VerRegs where
  /-- `V_EXP`. -/
  expect : Word
  plen : Word
  recv : Word
  wlen : Word
  unc : Word
  cor : Word
  idx : Word
  miss : Word
  ferq : Word
  dup : Word
  rcvd : Word
  /-- `S.vcnt`: the entries that are not 0, as (index, count) pairs, indices strictly rising (log 12). -/
  vcnt : List (Nat × Word)
  vfinal : Bool
deriving DecidableEq, Repr

/-- R58 `D_PHASE`: the scheduler's phase. -/
inductive Phase where
  | reach | wait
deriving DecidableEq, Repr

/-- The Doppler unit's registers and the scheduler's state (10_state.md R53-R60, R66). -/
structure DopRegs where
  now : DWord
  fdl : DWord
  ful : DWord
  rr : DWord
  dl : DWord
  ul : DWord
  pt : DWord
  base : Word
  cnt : Word
  idx : Word
  pubn : Word
  skipn : Word
  phase : Phase
  lt : DWord
  lr : DWord
  drun : Bool
deriving DecidableEq, Repr

/-- R65 `S.wsh`: the write shadow of each RW 64-bit register. -/
structure WriteShadows where
  now : Word
  fdl : Word
  ful : Word
  rr : Word
deriving DecidableEq, Repr

/-- R65 `S.rsh`: the read shadow of each 64-bit register. -/
structure ReadShadows where
  now : Word
  fdl : Word
  ful : Word
  rr : Word
  dl : Word
  ul : Word
  pt : Word
  lt : Word
  lr : Word
deriving DecidableEq, Repr

/-- R68 `Publish(t, now, dl, ul)`: the sample's timestamp, `D_NOW` at the publish, and the two shifts in millihertz. -/
structure Publish where
  t : DWord
  now : DWord
  dl : Int
  ul : Int
deriving DecidableEq, Repr

/-- One host bus access: an offset from `BLOCK_BASE` (R81), a width in bytes, and for a write the value, of which the low `width` bytes are
stored. The offset stands for the host address (log 6). -/
inductive HostAccess where
  | read (offset width : Nat)
  | write (offset width : Nat) (value : Word)
deriving DecidableEq, Repr

/-- What the environment of the block does next (60_exceptions.md R256; log 1). -/
inductive Event where
  /-- The host's bus access takes effect. -/
  | host (a : HostAccess)
  /-- The clock ticks (43_doppler.md R211). -/
  | tick
  /-- The command engine gets its turn (44_control.md R231). -/
  | engine
deriving DecidableEq, Repr

/-- The block's answer to a host access: the data read (0 for a write), and whether it was a bus error (20_memory.md R82, R87; log 9). -/
structure BusResponse where
  data : Word
  error : Bool
deriving DecidableEq, Repr

/-- The whole machine. -/
structure State where
  ctl : Ctl
  golay : GolayRegs
  /-- PRBS unit 0, the source generator (R48). -/
  prbs0 : PrbsUnit
  /-- PRBS unit 1, the verifier's generator (R48). -/
  prbs1 : PrbsUnit
  ver : VerRegs
  dop : DopRegs
  wsh : WriteShadows
  rsh : ReadShadows
  buf : Memory
  /-- R68: the publish records, oldest first. -/
  history : List Publish
  /-- The model's own: what the environment does next, first event first (log 1). -/
  agenda : List Event
  /-- The model's own: the answer to the last host access (log 9). -/
  resp : Option BusResponse
deriving DecidableEq, Repr

/-- Why the machine stops. -/
inductive Fault where
  /-- Raised by a host access whose offset is at or beyond `0x10000 + BUF_SIZE`: it is outside the block "and the platform decides" what it
  does (R81). Safe: no claim about such an access can be proved (log 7). -/
  | outsideBlock (offset : Nat)
deriving DecidableEq, Repr

/-- Why an instruction has no meaning. No command of this block is refused. -/
inductive Refusal where
  /-- Raised by `exec` alone, for an instruction not modelled yet. Safe. No arm raises it now. -/
  | notModelled (mnemonic : String)
deriving DecidableEq, Repr

/-- The outcome of a step of this machine. -/
abbrev Result := Host.Outcome State Fault Refusal

/-- R240: the error codes of a command; `OK` is the absence of one. -/
inductive CmdError where
  | illegalCmd
  | notConfigured
  | invalidConfig
  | framing
  | bounds
  | notMonotonic
  | schedBusy
  | emptyPlan
deriving DecidableEq, Repr

/-- The reset values of the control registers (R70). -/
def Ctl.reset : Ctl :=
  { cmd := 0, busy := false,
    snap := { arg0 := 0, arg1 := 0, arg2 := 0, arg3 := 0, gDin := 0, gCin := 0, gPre := 0, gPost := 0, dRr := 0, dFdl := 0, dFul := 0 },
    result := 0, irqPend := 0, irqEn := 0, arg0 := 0, arg1 := 0, arg2 := 0, arg3 := 0, res0 := 0, res1 := 0 }

/-- The reset values of the Golay registers (R70). -/
def GolayRegs.reset : GolayRegs :=
  { din := 0, cout := 0, cin := 0, dout := 0, dstat := 0, pre := 0, post := 0, fblk := 0, func := 0, fcor := 0 }

/-- The reset value of a PRBS unit: unconfigured (R70). -/
def PrbsUnit.reset : PrbsUnit := { poly := 0, len := 0, cur := 0, reg := 0 }

/-- The reset values of the verifier: unconfigured, every count 0 (R70). -/
def VerRegs.reset : VerRegs :=
  { expect := 0, plen := 0, recv := 0, wlen := 0, unc := 0, cor := 0, idx := 0, miss := 0, ferq := 0, dup := 0, rcvd := 0,
    vcnt := [], vfinal := false }

/-- The reset values of the Doppler unit: the scheduler stopped, phase REACH (R70). -/
def DopRegs.reset : DopRegs :=
  { now := 0, fdl := 0, ful := 0, rr := 0, dl := 0, ul := 0, pt := 0, base := 0, cnt := 0, idx := 0, pubn := 0, skipn := 0,
    phase := .reach, lt := 0, lr := 0, drun := false }

/-- The reset values of the shadows (R70). -/
def WriteShadows.reset : WriteShadows := { now := 0, fdl := 0, ful := 0, rr := 0 }

/-- The reset values of the shadows (R70). -/
def ReadShadows.reset : ReadShadows :=
  { now := 0, fdl := 0, ful := 0, rr := 0, dl := 0, ul := 0, pt := 0, lt := 0, lr := 0 }

/-- R280, R70: the block right after power-on reset. Nothing of BUF is listed, so every byte of it reads as the free value (log 4); no
publish has been made. The model's own agenda is empty and no access has been answered (DESIGN CHOICE, log 1, log 9). -/
def State.reset : State :=
  { ctl := Ctl.reset, golay := GolayRegs.reset, prbs0 := PrbsUnit.reset, prbs1 := PrbsUnit.reset, ver := VerRegs.reset,
    dop := DopRegs.reset, wsh := WriteShadows.reset, rsh := ReadShadows.reset, buf := [], history := [], agenda := [], resp := none }

end Sys2Proof.Machine
end

