-- ==== Sys2Proof/Machine/Flags.lean ====
section
/-! DEFINITION. The status bits of the block: the pending bits of `IRQ_PEND` and the interrupt output (10_state.md R36, R69; 60_exceptions.md R248,
R249), the `STATUS` view (R34) and the `RESULT` word (R35). -/

namespace Sys2Proof.Machine

/-- R248 bit 0: a command completed. -/
def irqCmdDone : BitVec 6 := 0b000001
/-- R248 bit 1: a command completed with an error code. -/
def irqCmdErr : BitVec 6 := 0b000010
/-- R248 bit 2: a `CMD` write was dropped. -/
def irqCmdOvr : BitVec 6 := 0b000100
/-- R248 bit 3: a Doppler publish. -/
def irqDPub : BitVec 6 := 0b001000
/-- R248 bit 4: a Doppler sample was skipped. -/
def irqDSkip : BitVec 6 := 0b010000
/-- R248 bit 5: the scheduler ran off the end of its table. -/
def irqDDone : BitVec 6 := 0b100000

/-- R248: set pending bits; a bit already set stays set. -/
def State.pend (s : State) (bits : BitVec 6) : State := { s with ctl := { s.ctl with irqPend := s.ctl.irqPend ||| bits } }

/-- R36: a host write of `v` to `IRQ_PEND` clears the bits that `v` names. -/
def State.ackPend (s : State) (v : Word) : State :=
  { s with ctl := { s.ctl with irqPend := s.ctl.irqPend &&& ~~~(v.extractLsb' 0 6) } }

/-- R69, R249: the interrupt output, a level. -/
def irqLevel (s : State) : Bool := decide (s.ctl.irqPend &&& s.ctl.irqEn ≠ 0)

/-- R34: the `STATUS` register, bit 0 first in the rule's list; bits 31:7 read 0. -/
def statusWord (s : State) : Word :=
  0#25 ++ BitVec.ofBool (irqLevel s) ++ BitVec.ofBool (decide (s.ver.expect ≠ 0)) ++ BitVec.ofBool (decide (s.prbs1.len ≠ 0)) ++
    BitVec.ofBool (decide (s.prbs0.len ≠ 0)) ++ BitVec.ofBool s.ver.vfinal ++ BitVec.ofBool s.dop.drun ++ BitVec.ofBool s.ctl.busy

/-- R240: the result codes; `none` is `OK`. -/
def resultCode : Option CmdError → BitVec 8
  | none => 0x00
  | some .illegalCmd => 0x01
  | some .notConfigured => 0x02
  | some .invalidConfig => 0x03
  | some .framing => 0x04
  | some .bounds => 0x05
  | some .notMonotonic => 0x06
  | some .schedBusy => 0x07
  | some .emptyPlan => 0x08

/-- R35, R241: the `RESULT` of a command word and its outcome: `OPC` is bits 31:24 of the word, `CODE` bits 7:0, bits 23:8 read 0. -/
def resultWord (cmd : Word) (e : Option CmdError) : Word := cmd.extractLsb' 24 8 ++ 0#16 ++ resultCode e

end Sys2Proof.Machine
end

