-- ==== Sys2Proof/Machine/Bits.lean ====
section
/-! DEFINITION. Bit streams, packing, byte order and the arithmetic primitives of 00_scope.md R16-R18 and R22. A stream is a list of bits, its
first element `b_0`. -/

namespace Sys2Proof.Machine

/-- R18 `bits_w(v)`: a value read as a stream, most significant bit first. -/
def bitsOf {w : Nat} (v : BitVec w) : List Bool := (List.range w).map fun i => v.getLsbD (w - 1 - i)

/-- R18 `val(b)`, the inverse of `bits_w`: the first bit of the stream is the most significant. -/
def valOf (b : List Bool) : Nat := b.foldl (fun acc x => 2 * acc + x.toNat) 0

/-- R18: byte `k` of `pack(b)`; positions at or beyond the stream's length are 0. -/
def packByte (b : List Bool) (k : Nat) : Byte :=
  BitVec.ofNat 8 (valOf ((List.range 8).map fun m => b.getD (8 * k + m) false))

/-- R18 `pack(b)`: `ceil(n/8)` bytes, the first bit of the stream the most significant bit of the first byte, the last byte padded with
zeros. -/
def pack (b : List Bool) : List Byte := (List.range ((b.length + 7) / 8)).map (packByte b)

/-- R18 `unpack(B)`: the stream of whole bytes, each most significant bit first. -/
def unpack (bytes : List Byte) : List Bool := bytes.flatMap bitsOf

/-- R17 `b[i..j)` with `j = i + n`. -/
def subStream (b : List Bool) (i n : Nat) : List Bool := (b.drop i).take n

/-- R20, R89: a byte sequence as an unsigned little-endian integer. -/
def leValue : List Byte → Nat
  | [] => 0
  | b :: bs => b.toNat + 256 * leValue bs

/-- R20, R89: the `n` low bytes of `v`, least significant first. -/
def leBytes (n v : Nat) : List Byte := (List.range n).map fun k => BitVec.ofNat 8 (v / 256 ^ k)

/-- R22 `popcount(v)`: the number of 1 bits. -/
def popcount {w : Nat} (v : BitVec w) : Nat := (List.range w).countP fun i => v.getLsbD i

/-- R22 `sat64(v)`. -/
def sat64 (v : Int) : Int := min (max v (-(2 ^ 63))) (2 ^ 63 - 1)

/-- R22 `satu32(v)`. -/
def satu32 (v : Nat) : Nat := min v (2 ^ 32 - 1)

/-- R22 `enc64(v)`: the 64-bit two's-complement pattern. -/
def enc64 (v : Int) : DWord := BitVec.ofInt 64 v

/-- R22 `ceil(n / 8)`: the bytes that `n` bits take. -/
def byteCount (n : Nat) : Nat := (n + 7) / 8

/-- D34: a 32-bit saturating counter, one event later (R22 `satu32`). -/
def satInc (v : Word) : Word := BitVec.ofNat 32 (satu32 (v.toNat + 1))

end Sys2Proof.Machine
end

