-- ==== Sys2Proof/Machine/Sparse.lean ====
section
/-! DEFINITION. Finite maps from numbers as lists of (key, value) pairs with keys strictly rising: the form in which State holds BUF and the
verifier's per-index counts (log 4, log 12). -/

namespace Sys2Proof.Machine

/-- The value listed at key `k`. -/
def cellGet {α : Type} : List (Nat × α) → Nat → Option α
  | [], _ => none
  | (a, v) :: rest, k => if k = a then some v else cellGet rest k

/-- List value `x` at key `k`, keeping keys strictly rising and replacing what was listed there. -/
def cellPut {α : Type} : List (Nat × α) → Nat → α → List (Nat × α)
  | [], k, x => [(k, x)]
  | (a, v) :: rest, k, x =>
    if k < a then (k, x) :: (a, v) :: rest
    else if k = a then (k, x) :: rest
    else (a, v) :: cellPut rest k x

/-- Keys strictly rise. -/
abbrev keysRise {α : Type} (m : List (Nat × α)) : Prop := m.Pairwise fun c d => c.1 < d.1

end Sys2Proof.Machine
end

