-- ==== Sys2Proof/Machine/Memory.lean ====
section
/-! DEFINITION. Buffer memory and the memory primitives of 00_scope.md R20: one byte, byte sequences, and little-endian integers (20_memory.md
R80, R84, R85, R89). -/

namespace Sys2Proof.Machine

/-- The canonical form: addresses strictly rise and lie inside BUF (R80). An unlisted address has no written value, so no entry equals
what an unlisted address holds. -/
abbrev Memory.wf (m : Memory) : Prop := keysRise m ∧ ∀ c ∈ m, c.1 < Config.bufSize

/-- One byte of BUF. A byte that nothing has written since power-on is "any value in 0..255" (R280, U4): a free value (log 4). -/
def Memory.byte (m : Memory) (a : Nat) : Byte := (cellGet m a).getD (Config.powerOnByte a)

/-- R20 `MemBytes(addr, n)`. -/
def Memory.bytes (m : Memory) (a n : Nat) : List Byte := (List.range n).map fun k => m.byte (a + k)

/-- R20 `MemRead(addr, n)`: an unsigned little-endian integer. -/
def Memory.read (m : Memory) (a n : Nat) : Nat := leValue (m.bytes a n)

/-- R20 `MemWriteBytes(addr, B)`. -/
def Memory.writeBytes : Memory → Nat → List Byte → Memory
  | m, _, [] => m
  | m, a, b :: bs => Memory.writeBytes (cellPut m a b) (a + 1) bs

/-- R20 `MemWrite(addr, n, v)`: the `n` low bytes of `v`, little-endian. -/
def Memory.write (m : Memory) (a n v : Nat) : Memory := m.writeBytes a (leBytes n v)

/-- R84 `in_bounds(a, n)`: computed without wrap-around, and true for the empty range. -/
def inBounds (a n : Nat) : Bool := decide (n = 0) || decide (a + n ≤ Config.bufSize)

/-- The byte of BUF at an address. -/
def State.byteAt (s : State) (a : Nat) : Byte := s.buf.byte a

/-- The state with a byte sequence stored in BUF (R20). -/
def State.store (s : State) (a : Nat) (bs : List Byte) : State := { s with buf := s.buf.writeBytes a bs }

end Sys2Proof.Machine
end

