-- ==== Sys2Proof/Machine/FixedPoint.lean ====
section
/-! DEFINITION. The Doppler unit's fixed-point functions (43_doppler.md R190-R193): sample records, interpolation and the shift. -/

namespace Sys2Proof.Machine

/-- R190, R191: a timestamp in nanoseconds and a range rate in micrometres per second. -/
structure Sample where
  t : Nat
  r : Int
deriving DecidableEq, Repr

/-- R191 `sample(a, i)`: the 16-byte record at `a + 16i`. -/
def sampleAt (m : Memory) (a i : Nat) : Sample :=
  { t := m.read (a + 16 * i) 8, r := (BitVec.ofNat 64 (m.read (a + 16 * i + 8) 8)).toInt }

/-- R191: a table of `n` samples at address `a`. -/
def samplesAt (m : Memory) (a n : Nat) : List Sample := (List.range n).map (sampleAt m a)

/-- R191, R200: the record a sample is stored as. -/
def Sample.record (x : Sample) : List Byte := leBytes 8 x.t ++ leBytes 8 (enc64 x.r).toNat

/-- R192: the sub-sample `j` of the pair `x`, `y`: time rounded down, rate rounded toward zero, each product before its division. -/
def subSample (x y : Sample) (cps j : Nat) : Sample :=
  { t := x.t + j * (y.t - x.t) / cps, r := x.r + (j * (y.r - x.r) : Int).tdiv cps }

/-- R192 `interp(samples, cps)`: `cps` sub-samples for each pair, then the last sample unchanged. -/
def interp (cps : Nat) : List Sample → List Sample
  | [] => []
  | [x] => [x]
  | x :: y :: rest => (List.range cps).map (subSample x y cps) ++ interp cps (y :: rest)

/-- R192, R200: timestamps strictly increase. -/
def strictlyIncreasing : List Sample → Bool
  | [] => true
  | [_] => true
  | x :: y :: rest => decide (x.t < y.t) && strictlyIncreasing (y :: rest)

/-- R193: the divisor `c * 1000`. -/
def shiftDivisor : Nat := Config.lightSpeed * 1000

/-- R193 `shift(f, r)` in millihertz: the exact product, rounded toward zero and saturated. -/
def shift (f : Nat) (r : Int) : Int := sat64 ((f * r : Int).tdiv shiftDivisor)

end Sys2Proof.Machine
end

