-- ==== Sys2Proof/Machine/Operands.lean ====
section
/-! DEFINITION. Operand assembly (30_encoding.md R105): every operand of a command but `U` and `SEL` is read from the snapshot `S.snap`, unscaled. -/

namespace Sys2Proof.Machine

/-- R105: `snap.ARG0`, an unsigned 32-bit integer. -/
def State.a0 (s : State) : Nat := s.ctl.snap.arg0.toNat
/-- R105: `snap.ARG1`. -/
def State.a1 (s : State) : Nat := s.ctl.snap.arg1.toNat
/-- R105: `snap.ARG2`. -/
def State.a2 (s : State) : Nat := s.ctl.snap.arg2.toNat
/-- R105: `snap.ARG3`. -/
def State.a3 (s : State) : Nat := s.ctl.snap.arg3.toNat

/-- R105, R127: the 64-bit bit offset of `PGENO`, `{snap.ARG3, snap.ARG2}`, unsigned. -/
def State.bitOffset (s : State) : Nat := s.a3 * 2 ^ 32 + s.a2

/-- R105: `snap.D_RR`, read as `sext_64`. -/
def State.rangeRate (s : State) : Int := s.ctl.snap.dRr.toInt

/-- R105: `snap.D_FDL`, unsigned. -/
def State.fDown (s : State) : Nat := s.ctl.snap.dFdl.toNat

/-- R105: `snap.D_FUL`, unsigned. -/
def State.fUp (s : State) : Nat := s.ctl.snap.dFul.toNat

end Sys2Proof.Machine
end

