-- ==== Sys2Proof/Machine/Ops.lean ====
section
/-! DEFINITION. The shared operations: accepting a command (10_state.md R33), completing one with or without an error (60_exceptions.md R241, R243), the
result registers, and the PRBS unit a command selects. The block takes no traps (R252) and has nothing to return from (R253): completion
with an error code is its only way to report a failing command. -/

namespace Sys2Proof.Machine

/-- R62: the operand registers as they stand now. -/
def State.capture (s : State) : Snapshot :=
  { arg0 := s.ctl.arg0, arg1 := s.ctl.arg1, arg2 := s.ctl.arg2, arg3 := s.ctl.arg3, gDin := s.golay.din, gCin := s.golay.cin,
    gPre := s.golay.pre, gPost := s.golay.post, dRr := s.dop.rr, dFdl := s.dop.fdl, dFul := s.dop.ful }

/-- R33: an accepted `CMD` write: the word and the operands are captured and `BUSY` is set. -/
def State.accept (s : State) (w : Word) : State := { s with ctl := { s.ctl with cmd := w, snap := s.capture, busy := true } }

/-- R33, R246: a `CMD` write. While busy it is dropped and sets `CMD_OVR`, and nothing else. -/
def State.writeCmd (s : State) (w : Word) : State := if s.ctl.busy then s.pend irqCmdOvr else s.accept w

/-- The pending bits a completion sets (R241). -/
def donePend : Option CmdError → BitVec 6
  | none => irqCmdDone
  | some _ => irqCmdDone ||| irqCmdErr

/-- R241 `complete(w, code)` with `w = S.cmd`: `RESULT`, `CMD_DONE`, `CMD_ERR` on an error, and `BUSY` cleared. -/
def State.complete (s : State) (e : Option CmdError) : State :=
  { s with ctl := { s.ctl with result := resultWord s.ctl.cmd e, irqPend := s.ctl.irqPend ||| donePend e, busy := false } }

/-- R231, R243: a command's rule either raises an error, and then the command changes nothing but the completion state, or reaches its
end with the state it has written. -/
def finish (s : State) (r : Except CmdError State) : Result :=
  match r with
  | .ok t => .next (t.complete none)
  | .error e => .next (s.complete (some e))

/-- R40 `RES0`. -/
def State.setRes0 (s : State) (v : Nat) : State := { s with ctl := { s.ctl with res0 := BitVec.ofNat 32 v } }

/-- R40 `RES1`. -/
def State.setRes1 (s : State) (v : Nat) : State := { s with ctl := { s.ctl with res1 := BitVec.ofNat 32 v } }

/-- R48: the PRBS unit that `U` selects: 0 is the source generator, 1 the verifier's. A decoded `U` is 0 or 1 (log 10). -/
def State.prbs (s : State) (u : Nat) : PrbsUnit := if u = 0 then s.prbs0 else s.prbs1

/-- R48: write the PRBS unit that `U` selects. -/
def State.setPrbs (s : State) (u : Nat) (p : PrbsUnit) : State := if u = 0 then { s with prbs0 := p } else { s with prbs1 := p }

/-- R51, R63: `S.vcnt[i]`; an entry that is not listed is 0 (log 12). -/
def VerRegs.count (v : VerRegs) (i : Nat) : Word := (cellGet v.vcnt i).getD 0

end Sys2Proof.Machine
end

