-- ==== Sys2Proof/Machine/Scheduler.lean ====
section
/-! DEFINITION. The cadence scheduler (43_doppler.md R210-R216): its evaluation, publishing, skipping and finishing. It has no step of its own: DSTART,
a tick and a commit of `D_NOW` run it (R213). -/

namespace Sys2Proof.Machine

/-- R97, R212: the sample the scheduler reads in phase REACH, from BUF as it stands. -/
def State.reached (s : State) : Sample := sampleAt s.buf s.dop.base.toNat s.dop.idx.toNat

/-- R212: in phase REACH, the sample's time has already passed; an equal time has not. -/
def State.passed (s : State) : Bool := decide (s.dop.phase = .reach) && decide (s.reached.t < s.dop.now.toNat)

/-- R215 `skip()`: the sample is counted and not published. -/
def State.skip (s : State) : State :=
  State.pend { s with dop := { s.dop with skipn := satInc s.dop.skipn, idx := s.dop.idx + 1 } } irqDSkip

/-- R212: in phase REACH, the sample is latched and the phase becomes WAIT. In phase WAIT it is latched already. -/
def State.latch (s : State) : State :=
  match s.dop.phase with
  | .reach => { s with dop := { s.dop with lt := BitVec.ofNat 64 s.reached.t, lr := enc64 s.reached.r, phase := .wait } }
  | .wait => s

/-- R214: the downlink shift of the latched sample, with the live carrier frequency. -/
def State.latchedDl (s : State) : Int := shift s.dop.fdl.toNat s.dop.lr.toInt

/-- R214: the uplink shift of the latched sample, with the live carrier frequency. -/
def State.latchedUl (s : State) : Int := shift s.dop.ful.toNat s.dop.lr.toInt

/-- R214 `publish()`: the two shifts of the latched sample, with the live carrier frequencies. -/
def State.publish (s : State) : State :=
  let t : State := { s with
    dop := { s.dop with dl := enc64 s.latchedDl, ul := enc64 s.latchedUl, pt := s.dop.lt, pubn := satInc s.dop.pubn, idx := s.dop.idx + 1,
                        phase := .reach }
    history := s.history ++ [{ t := s.dop.lt, now := s.dop.now, dl := s.latchedDl, ul := s.latchedUl }] }
  t.pend irqDPub

/-- R212, R216: the table is done. -/
def State.runDone (s : State) : State := { s with dop := { s.dop with drun := false } }.pend irqDDone

/-- R212 `sched_eval()`, its loop written with fuel: each turn that goes on handles one sample. -/
def schedLoop : Nat → State → State
  | 0, s => s
  | fuel + 1, s =>
    if s.dop.drun = false then s
    else if s.dop.idx = s.dop.cnt then s.runDone
    else if s.passed then schedLoop fuel s.skip
    else if s.latch.dop.lt ≤ s.latch.dop.now then schedLoop fuel s.latch.publish
    else s.latch

/-- R212 `sched_eval()`: there are `D_CNT - D_IDX` samples to handle and one turn to find the end, so the fuel suffices whenever
`D_IDX ≤ D_CNT`, which holds in every state a run reaches (R58; log 11). -/
def schedEval (s : State) : State := schedLoop (s.dop.cnt.toNat - s.dop.idx.toNat + 1) s

end Sys2Proof.Machine
end

