-- ==== Sys2Proof/Machine/Regs.lean ====
section
/-! DEFINITION. The register map (10_state.md section 2) and what a host read or write of each register does (R32-R61), with the 64-bit access
protocol of 20_memory.md R88. -/

namespace Sys2Proof.Machine

/-- The 64-bit registers of R88. -/
inductive Reg64 where
  | now | fdl | ful | rr | dl | ul | pt | lt | lr
deriving DecidableEq, Repr

/-- The registers of the register map, the two halves of a 64-bit register apart. -/
inductive Reg where
  | id | cmd | status | result | irqPend | irqEn | ctrl
  | arg0 | arg1 | arg2 | arg3 | res0 | res1
  | gDin | gCout | gCin | gDout | gDstat | gPre | gPost | gFblk | gFunc | gFcor
  | pPoly (u : Fin 2) | pLen (u : Fin 2) | pCur (u : Fin 2) | pReg (u : Fin 2)
  | vExp | vPlen | vRecv | vWlen | vUnc | vCor | vIdx | vCnt | vMiss | vFerq | vDup | vRcvd
  | lo (r : Reg64) | hi (r : Reg64)
  | dBase | dCnt | dIdx | dPubn | dSkipn | dPhase
deriving DecidableEq, Repr

/-- The offset of a 64-bit register's `_LO` word; `_HI` is 4 above it. -/
def reg64Offset : Reg64 → Nat
  | .now => 0x100
  | .fdl => 0x108
  | .ful => 0x110
  | .rr => 0x118
  | .dl => 0x120
  | .ul => 0x128
  | .pt => 0x130
  | .lt => 0x150
  | .lr => 0x158

/-- The register map of 10_state.md section 2. -/
def regOffset : Reg → Nat
  | .id => 0x000
  | .cmd => 0x004
  | .status => 0x008
  | .result => 0x00C
  | .irqPend => 0x010
  | .irqEn => 0x014
  | .ctrl => 0x018
  | .arg0 => 0x020
  | .arg1 => 0x024
  | .arg2 => 0x028
  | .arg3 => 0x02C
  | .res0 => 0x030
  | .res1 => 0x034
  | .gDin => 0x040
  | .gCout => 0x044
  | .gCin => 0x048
  | .gDout => 0x04C
  | .gDstat => 0x050
  | .gPre => 0x054
  | .gPost => 0x058
  | .gFblk => 0x05C
  | .gFunc => 0x060
  | .gFcor => 0x064
  | .pPoly u => 0x080 + 0x20 * u.val
  | .pLen u => 0x084 + 0x20 * u.val
  | .pCur u => 0x088 + 0x20 * u.val
  | .pReg u => 0x08C + 0x20 * u.val
  | .vExp => 0x0C0
  | .vPlen => 0x0C4
  | .vRecv => 0x0C8
  | .vWlen => 0x0CC
  | .vUnc => 0x0D0
  | .vCor => 0x0D4
  | .vIdx => 0x0D8
  | .vCnt => 0x0DC
  | .vMiss => 0x0E0
  | .vFerq => 0x0E4
  | .vDup => 0x0E8
  | .vRcvd => 0x0EC
  | .lo r => reg64Offset r
  | .hi r => reg64Offset r + 4
  | .dBase => 0x138
  | .dCnt => 0x13C
  | .dIdx => 0x140
  | .dPubn => 0x144
  | .dSkipn => 0x148
  | .dPhase => 0x14C

/-- The 64-bit registers. -/
def reg64List : List Reg64 := [.now, .fdl, .ful, .rr, .dl, .ul, .pt, .lt, .lr]

/-- The global control registers of the map. -/
def regsControl : List Reg :=
  [.id, .cmd, .status, .result, .irqPend, .irqEn, .ctrl, .arg0, .arg1, .arg2, .arg3, .res0, .res1]

/-- The Golay unit's registers of the map. -/
def regsGolay : List Reg := [.gDin, .gCout, .gCin, .gDout, .gDstat, .gPre, .gPost, .gFblk, .gFunc, .gFcor]

/-- A PRBS unit's registers of the map. -/
def regsPrbs (u : Fin 2) : List Reg := [.pPoly u, .pLen u, .pCur u, .pReg u]

/-- The verifier's registers of the map. -/
def regsVerifier : List Reg :=
  [.vExp, .vPlen, .vRecv, .vWlen, .vUnc, .vCor, .vIdx, .vCnt, .vMiss, .vFerq, .vDup, .vRcvd]

/-- The Doppler unit's 32-bit registers of the map. -/
def regsDoppler : List Reg := [.dBase, .dCnt, .dIdx, .dPubn, .dSkipn, .dPhase]

/-- Every register of the map. -/
def regList : List Reg :=
  regsControl ++ regsGolay ++ regsPrbs 0 ++ regsPrbs 1 ++ regsVerifier ++ reg64List.map Reg.lo ++ reg64List.map Reg.hi ++ regsDoppler

/-- The register at an offset; `none` where the map assigns none (R61). -/
def regAt (o : Nat) : Option Reg := regList.find? fun r => decide (regOffset r = o)

/-- The value of a 64-bit register. -/
def State.get64 (s : State) : Reg64 → DWord
  | .now => s.dop.now
  | .fdl => s.dop.fdl
  | .ful => s.dop.ful
  | .rr => s.dop.rr
  | .dl => s.dop.dl
  | .ul => s.dop.ul
  | .pt => s.dop.pt
  | .lt => s.dop.lt
  | .lr => s.dop.lr

/-- R65 `S.rsh[R]`. -/
def State.readShadow (s : State) : Reg64 → Word
  | .now => s.rsh.now
  | .fdl => s.rsh.fdl
  | .ful => s.rsh.ful
  | .rr => s.rsh.rr
  | .dl => s.rsh.dl
  | .ul => s.rsh.ul
  | .pt => s.rsh.pt
  | .lt => s.rsh.lt
  | .lr => s.rsh.lr

/-- R88: `S.rsh[R] <- v`. -/
def State.latchRead (s : State) (r : Reg64) (v : Word) : State :=
  match r with
  | .now => { s with rsh := { s.rsh with now := v } }
  | .fdl => { s with rsh := { s.rsh with fdl := v } }
  | .ful => { s with rsh := { s.rsh with ful := v } }
  | .rr => { s with rsh := { s.rsh with rr := v } }
  | .dl => { s with rsh := { s.rsh with dl := v } }
  | .ul => { s with rsh := { s.rsh with ul := v } }
  | .pt => { s with rsh := { s.rsh with pt := v } }
  | .lt => { s with rsh := { s.rsh with lt := v } }
  | .lr => { s with rsh := { s.rsh with lr := v } }

/-- R88: a host write of `v` to `R_LO` sets the write shadow; a read-only register ignores it. -/
def State.writeLo (s : State) (r : Reg64) (v : Word) : State :=
  match r with
  | .now => { s with wsh := { s.wsh with now := v } }
  | .fdl => { s with wsh := { s.wsh with fdl := v } }
  | .ful => { s with wsh := { s.wsh with ful := v } }
  | .rr => { s with wsh := { s.wsh with rr := v } }
  | .dl | .ul | .pt | .lt | .lr => s

/-- R88: a host write of `v` to `R_HI` commits `v` with the write shadow as the low half; a read-only register ignores it. A commit of `D_NOW` runs
the scheduler evaluation in the same step (R53, R213). -/
def State.writeHi (s : State) (r : Reg64) (v : Word) : State :=
  match r with
  | .now => schedEval { s with dop := { s.dop with now := v ++ s.wsh.now } }
  | .fdl => { s with dop := { s.dop with fdl := v ++ s.wsh.fdl } }
  | .ful => { s with dop := { s.dop with ful := v ++ s.wsh.ful } }
  | .rr => { s with dop := { s.dop with rr := v ++ s.wsh.rr } }
  | .dl | .ul | .pt | .lt | .lr => s

/-- R58: `D_PHASE` as read: 0 is REACH, 1 is WAIT. -/
def phaseWord : Phase → Word
  | .reach => 0
  | .wait => 1

/-- R51: `V_CNT` as read: `S.vcnt[V_IDX]` where `V_IDX < V_EXP`, else 0. -/
def vcntWord (v : VerRegs) : Word := if v.idx.toNat < v.expect.toNat then v.count v.idx.toNat else 0

/-- What a host read of a register returns (R32-R61). Write-only registers read 0; bits that do not exist read 0. -/
def readReg (s : State) : Reg → Word
  | .id => Config.idValue
  | .cmd => 0
  | .status => statusWord s
  | .result => s.ctl.result
  | .irqPend => s.ctl.irqPend.setWidth 32
  | .irqEn => s.ctl.irqEn.setWidth 32
  | .ctrl => 0
  | .arg0 => s.ctl.arg0
  | .arg1 => s.ctl.arg1
  | .arg2 => s.ctl.arg2
  | .arg3 => s.ctl.arg3
  | .res0 => s.ctl.res0
  | .res1 => s.ctl.res1
  | .gDin => s.golay.din.setWidth 32
  | .gCout => s.golay.cout.setWidth 32
  | .gCin => s.golay.cin.setWidth 32
  | .gDout => s.golay.dout.setWidth 32
  | .gDstat => s.golay.dstat
  | .gPre => s.golay.pre
  | .gPost => s.golay.post
  | .gFblk => s.golay.fblk
  | .gFunc => s.golay.func
  | .gFcor => s.golay.fcor
  | .pPoly u => (s.prbs u.val).poly.setWidth 32
  | .pLen u => (s.prbs u.val).len
  | .pCur u => (s.prbs u.val).cur
  | .pReg u => (s.prbs u.val).reg
  | .vExp => s.ver.expect
  | .vPlen => s.ver.plen
  | .vRecv => s.ver.recv
  | .vWlen => s.ver.wlen
  | .vUnc => s.ver.unc
  | .vCor => s.ver.cor
  | .vIdx => s.ver.idx
  | .vCnt => vcntWord s.ver
  | .vMiss => s.ver.miss
  | .vFerq => s.ver.ferq
  | .vDup => s.ver.dup
  | .vRcvd => s.ver.rcvd
  | .lo r => (s.get64 r).extractLsb' 0 32
  | .hi r => s.readShadow r
  | .dBase => s.dop.base
  | .dCnt => s.dop.cnt
  | .dIdx => s.dop.idx
  | .dPubn => s.dop.pubn
  | .dSkipn => s.dop.skipn
  | .dPhase => phaseWord s.dop.phase

/-- R96: the only side effect of a register read: a read of a `_LO` half latches the high half (R88). -/
def afterRead (s : State) (r : Reg) : State :=
  match r with
  | .lo q => s.latchRead q ((s.get64 q).extractLsb' 32 32)
  | .id | .cmd | .status | .result | .irqPend | .irqEn | .ctrl | .arg0 | .arg1 | .arg2 | .arg3 | .res0 | .res1 => s
  | .gDin | .gCout | .gCin | .gDout | .gDstat | .gPre | .gPost | .gFblk | .gFunc | .gFcor => s
  | .pPoly _ | .pLen _ | .pCur _ | .pReg _ => s
  | .vExp | .vPlen | .vRecv | .vWlen | .vUnc | .vCor | .vIdx | .vCnt | .vMiss | .vFerq | .vDup | .vRcvd => s
  | .hi _ | .dBase | .dCnt | .dIdx | .dPubn | .dSkipn | .dPhase => s

/-- R281: soft reset. Every register, shadow and hidden field takes its reset value; BUF keeps its contents, and the publish history, the
host's agenda and the last bus response are outside the block (log 9). -/
def State.softReset (s : State) : State :=
  { State.reset with buf := s.buf, history := s.history, agenda := s.agenda, resp := s.resp }

/-- R38: a write to `CTRL`; bit 0 performs a soft reset, the other bits are ignored. -/
def State.writeCtrl (s : State) (v : Word) : State := if v.getLsbD 0 then s.softReset else s

/-- What a host write of `v` to a register does (R32-R61). A read-only register ignores it (D37), and bits that do not exist are not
stored. -/
def writeReg (s : State) (r : Reg) (v : Word) : State :=
  match r with
  | .cmd => s.writeCmd v
  | .irqPend => s.ackPend v
  | .irqEn => { s with ctl := { s.ctl with irqEn := v.extractLsb' 0 6 } }
  | .ctrl => s.writeCtrl v
  | .arg0 => { s with ctl := { s.ctl with arg0 := v } }
  | .arg1 => { s with ctl := { s.ctl with arg1 := v } }
  | .arg2 => { s with ctl := { s.ctl with arg2 := v } }
  | .arg3 => { s with ctl := { s.ctl with arg3 := v } }
  | .gDin => { s with golay := { s.golay with din := v.extractLsb' 0 12 } }
  | .gCin => { s with golay := { s.golay with cin := v.extractLsb' 0 24 } }
  | .gPre => { s with golay := { s.golay with pre := v } }
  | .gPost => { s with golay := { s.golay with post := v } }
  | .vIdx => { s with ver := { s.ver with idx := v } }
  | .lo q => s.writeLo q v
  | .hi q => s.writeHi q v
  | .id | .status | .result | .res0 | .res1 => s
  | .gCout | .gDout | .gDstat | .gFblk | .gFunc | .gFcor => s
  | .pPoly _ | .pLen _ | .pCur _ | .pReg _ => s
  | .vExp | .vPlen | .vRecv | .vWlen | .vUnc | .vCor | .vCnt | .vMiss | .vFerq | .vDup | .vRcvd => s
  | .dBase | .dCnt | .dIdx | .dPubn | .dSkipn | .dPhase => s

end Sys2Proof.Machine
end

