-- ==== Sys2Proof/Machine/Bus.lean ====
section
/-! DEFINITION. The host bus (20_memory.md R81-R83, R87, R96): where an access goes, its bus errors, and its effect and response. -/

namespace Sys2Proof.Machine

/-- R81: what an offset from `BLOCK_BASE` reaches. -/
inductive Route where
  /-- Register space, at this offset. -/
  | reg (o : Nat)
  /-- Buffer memory, at this byte address. -/
  | buf (a : Nat)
  /-- Outside the block. -/
  | outside
deriving DecidableEq, Repr

/-- R81: the host address map, by offset. -/
def route (o : Nat) : Route :=
  if o < 0x10000 then .reg o
  else if o < 0x10000 + Config.bufSize then .buf (o - 0x10000)
  else .outside

/-- R81: the offset a host address stands for; below `BLOCK_BASE` it is outside the block (log 6). -/
def hostOffset (addr : Nat) : Option Nat := if addr < Config.blockBase then none else some (addr - Config.blockBase)

/-- The offset of an access. -/
def HostAccess.offset : HostAccess → Nat
  | .read o _ => o
  | .write o _ _ => o

/-- R87: a register access is 4 bytes wide and 4-byte aligned. -/
def regAccessOk (o width : Nat) : Bool := decide (width = 4) && decide (o % 4 = 0)

/-- R81, R82: a BUF access is 1, 2 or 4 bytes wide, naturally aligned and inside BUF. Another width is a bus error (U8; log 8). -/
def bufAccessOk (a width : Nat) : Bool :=
  (decide (width = 1) || decide (width = 2) || decide (width = 4)) && decide (a % width = 0) && decide (a + width ≤ Config.bufSize)

/-- R83: the access has no step now: it goes to BUF and a command is pending. -/
def State.holds (s : State) (a : HostAccess) : Bool :=
  match route a.offset with
  | .buf _ => s.ctl.busy
  | .reg _ => false
  | .outside => false

/-- The block answers the host (log 9). -/
def State.respond (s : State) (data : Word) : State := { s with resp := some { data := data, error := false } }

/-- R82, R87, R245: a bus-error response: data 0, and no other effect. -/
def State.busError (s : State) : State := { s with resp := some { data := 0, error := true } }

/-- A host read of the register at offset `o` (R61, R87, R96). -/
def regReadStep (o width : Nat) (s : State) : State :=
  if regAccessOk o width = false then s.busError
  else
    match regAt o with
    | none => s.respond 0
    | some r => (afterRead s r).respond (readReg s r)

/-- A host write of the register at offset `o` (R61, R87). -/
def regWriteStep (o width : Nat) (v : Word) (s : State) : State :=
  if regAccessOk o width = false then s.busError
  else
    match regAt o with
    | none => s.respond 0
    | some r => (writeReg s r v).respond 0

/-- A host read of BUF, little-endian (R81, R82, R89). -/
def bufReadStep (a width : Nat) (s : State) : State :=
  if bufAccessOk a width = false then s.busError else s.respond (BitVec.ofNat 32 (s.buf.read a width))

/-- A host write of BUF: the `width` low bytes of the value, little-endian (R81, R82, R89). -/
def bufWriteStep (a width : Nat) (v : Word) (s : State) : State :=
  if bufAccessOk a width = false then s.busError else (s.store a (leBytes width v.toNat)).respond 0

/-- The host's bus access takes effect (R91). Outside the block the platform decides (R81; log 7). -/
def hostStep (a : HostAccess) (s : State) : Result :=
  match a with
  | .read o width =>
    match route o with
    | .reg o => .next (regReadStep o width s)
    | .buf b => .next (bufReadStep b width s)
    | .outside => .fault (.outsideBlock o)
  | .write o width v =>
    match route o with
    | .reg o => .next (regWriteStep o width v s)
    | .buf b => .next (bufWriteStep b width v s)
    | .outside => .fault (.outsideBlock o)

end Sys2Proof.Machine
end

