-- ==== Sys2Proof/Machine/Control.lean ====
section
/-! DEFINITION. The control command (44_control.md R230): NOP. -/

namespace Sys2Proof.Machine

/-- R230 `NOP`: nothing but the completion actions of R241. -/
def execNop (s : State) : Result := finish s (.ok s)

end Sys2Proof.Machine
end

