-- ==== Sys2Proof/Machine/Doppler.lean ====
section
/-! DEFINITION. The Doppler commands (43_doppler.md R200-R203): DINTERP, DSHIFT, DSTART and DSTOP. -/

namespace Sys2Proof.Machine

/-- R200 `NO`: the output samples of `n` input samples. -/
def interpCount (n cps : Nat) : Nat := if n = 0 then 0 else (n - 1) * cps + 1

/-- R200 `DINTERP`: operands `src` = ARG0, `N` = ARG1, `dst` = ARG2 and `cps` = ARG3. All input is read before any output is written (R86). -/
def dinterpRule (s : State) : Except CmdError State :=
  if s.a3 = 0 then .error .invalidConfig
  else if inBounds s.a0 (16 * s.a1) = false ∨ inBounds s.a2 (16 * interpCount s.a1 s.a3) = false then .error .bounds
  else
    let xs := samplesAt s.buf s.a0 s.a1
    if strictlyIncreasing xs = false then .error .notMonotonic
    else .ok ((s.store s.a2 ((interp s.a3 xs).flatMap Sample.record)).setRes0 (interpCount s.a1 s.a3))

/-- R200 `DINTERP`: interpolate a sample table from BUF into BUF. -/
def execDinterp (s : State) : Result := finish s (dinterpRule s)

/-- R201 `DSHIFT`: operands `snap.D_RR`, `snap.D_FDL` and `snap.D_FUL`. -/
def dshiftRule (s : State) : Except CmdError State :=
  .ok { s with dop := { s.dop with dl := enc64 (shift s.fDown s.rangeRate), ul := enc64 (shift s.fUp s.rangeRate) } }

/-- R201 `DSHIFT`: convert one range rate to the two shifts, without publishing. -/
def execDshift (s : State) : Result := finish s (dshiftRule s)

/-- R202: a run set up over `count` samples at `base`, before its first evaluation. -/
def State.startRun (s : State) (base count : Word) : State :=
  { s with dop := { s.dop with base := base, cnt := count, idx := 0, phase := .reach, pubn := 0, skipn := 0, drun := true } }

/-- R202 `DSTART`: operands `base` = ARG0 and `count` = ARG1. The scheduler is evaluated in the same step. -/
def dstartRule (s : State) : Except CmdError State :=
  if inBounds s.a0 (16 * s.a1) = false then .error .bounds
  else if s.dop.drun then .error .schedBusy
  else if s.a1 = 0 then .error .emptyPlan
  else .ok (schedEval (s.startRun s.ctl.snap.arg0 s.ctl.snap.arg1))

/-- R202 `DSTART`: start the scheduler over a table in BUF. -/
def execDstart (s : State) : Result := finish s (dstartRule s)

/-- R203 `DSTOP`: the index reached goes to `RES0`; nothing else of the run changes. -/
def dstopRule (s : State) : Except CmdError State :=
  .ok (State.setRes0 { s with dop := { s.dop with drun := false } } s.dop.idx.toNat)

/-- R203 `DSTOP`: stop the scheduler. -/
def execDstop (s : State) : Result := finish s (dstopRule s)

end Sys2Proof.Machine
end

