-- ==== Sys2Proof/Machine/Golay.lean ====
section
/-! DEFINITION. The Golay codec (41_golay.md): the code of R140-R144, its syndrome form R149, and the commands GENC, GDEC, GENCF and GDECF
(R145-R148). -/

namespace Sys2Proof.Machine

/-- R141 `par(D)`: the exclusive or of the rows `i` with `D[11-i] = 1`. -/
def golayPar (d : BitVec 12) : BitVec 12 :=
  (List.range 12).foldl (fun acc i => if d.getLsbD (11 - i) then acc ^^^ Config.golayRows.getD i 0 else acc) 0

/-- R141 `golay_enc(D)`: the data group in bits 23:12, its parity in bits 11:0. -/
def golayEnc (d : BitVec 12) : BitVec 24 := d ++ golayPar d

/-- What the decoder answers: the data group, `NERR`, and whether the word was uncorrectable (R45, R143). -/
structure GolayResult where
  data : BitVec 12
  nerr : Nat
  uncorr : Bool
deriving DecidableEq, Repr

/-- R143: the data groups whose codeword is at distance at most 3 from `r`, the first of them. There is at most one. -/
def golayNear (r : BitVec 24) : Option (BitVec 12) :=
  ((List.range 4096).map (BitVec.ofNat 12)).find? fun d => decide (popcount (r ^^^ golayEnc d) ≤ 3)

/-- R143 `golay_dec(R)`: bounded-distance decoding with radius 3. An uncorrectable word gives its own data half (R144; log 13). -/
def golayDec (r : BitVec 24) : GolayResult :=
  match golayNear r with
  | some d => { data := d, nerr := popcount (r ^^^ golayEnc d), uncorr := false }
  | none => { data := r.extractLsb' 12 12, nerr := 4, uncorr := true }

/-- R149 `syn(R)`: 0 exactly when `R` is a codeword. -/
def golaySyn (r : BitVec 24) : BitVec 12 := golayPar (r.extractLsb' 12 12) ^^^ r.extractLsb' 0 12

/-- R149 `E(s)`: the error pattern of weight at most 3 with syndrome `s`, where one exists. Its data half determines its parity half. -/
def golayErr (s : BitVec 12) : Option (BitVec 24) :=
  (((List.range 4096).map (BitVec.ofNat 12)).map fun e => e ++ (golayPar e ^^^ s)).find? fun e => decide (popcount e ≤ 3)

/-- R149: decoding by syndrome. -/
def golayDecSyn (r : BitVec 24) : GolayResult :=
  match golayErr (golaySyn r) with
  | some e => { data := (r ^^^ e).extractLsb' 12 12, nerr := popcount e, uncorr := false }
  | none => { data := r.extractLsb' 12 12, nerr := 4, uncorr := true }

/-- R45 `G_DSTAT`: `NERR` in bits 2:0 and `UNCORR` in bit 8. -/
def golayStat (g : GolayResult) : Word := BitVec.ofNat 32 (g.nerr + 256 * g.uncorr.toNat)

/-- R145 `GENC`. -/
def gencRule (s : State) : Except CmdError State :=
  .ok { s with golay := { s.golay with cout := golayEnc s.ctl.snap.gDin } }

/-- R145 `GENC`: encode one 12-bit group. -/
def execGenc (s : State) : Result := finish s (gencRule s)

/-- R146 `GDEC`. -/
def gdecRule (s : State) : Except CmdError State :=
  .ok { s with golay := { s.golay with dout := (golayDec s.ctl.snap.gCin).data, dstat := golayStat (golayDec s.ctl.snap.gCin) } }

/-- R146 `GDEC`: decode one 24-bit block. -/
def execGdec (s : State) : Result := finish s (gdecRule s)

/-- R147: the code stream of a payload: the codeword of each 12-bit group, in order (R142). -/
def golayEncStream (b : List Bool) (n : Nat) : List Bool :=
  (List.range n).flatMap fun j => bitsOf (golayEnc (BitVec.ofNat 12 (valOf (subStream b (12 * j) 12))))

/-- R47: the frame counters. -/
def State.setFrame (s : State) (blk unc cor : Nat) : State :=
  { s with golay := { s.golay with fblk := BitVec.ofNat 32 blk, func := BitVec.ofNat 32 unc, fcor := BitVec.ofNat 32 cor } }

/-- R147: the framed packet of a payload: preamble, codewords, postamble, the markers little-endian (R46). -/
def golayFrame (pre post : Word) (payload : List Byte) : List Byte :=
  leBytes 4 pre.toNat ++ pack (golayEncStream (unpack payload) (2 * payload.length / 3)) ++ leBytes 4 post.toNat

/-- R147 `GENCF`: operands `src` = ARG0, `K` = ARG1, `dst` = ARG2, `G_PRE` and `G_POST`. All input is read before any output is written
(R86). -/
def gencfRule (s : State) : Except CmdError State :=
  if s.a1 % 3 ≠ 0 then .error .framing
  else if inBounds s.a0 s.a1 = false ∨ inBounds s.a2 (8 + 2 * s.a1) = false then .error .bounds
  else .ok (((s.store s.a2 (golayFrame s.ctl.snap.gPre s.ctl.snap.gPost (s.buf.bytes s.a0 s.a1))).setFrame (2 * s.a1 / 3) 0 0).setRes0
    (8 + 2 * s.a1))

/-- R147 `GENCF`: encode a payload and frame it. -/
def execGencf (s : State) : Result := finish s (gencfRule s)

/-- R148: what the decoder answers for each 24-bit block of a payload stream. -/
def golayDecBlocks (b : List Bool) (n : Nat) : List GolayResult :=
  (List.range n).map fun j => golayDec (BitVec.ofNat 24 (valOf (subStream b (24 * j) 24)))

/-- R148 `fu`: the uncorrectable blocks. -/
def golayUncorr (rs : List GolayResult) : Nat := rs.countP (·.uncorr)

/-- R148 `fc`: the errors corrected, over the correctable blocks. -/
def golayCorrected (rs : List GolayResult) : Nat := ((rs.filter fun g => !g.uncorr).map (·.nerr)).sum

/-- R148: the decoded payload, 12 bits a block, packed. -/
def golayDecPayload (rs : List GolayResult) : List Byte := pack (rs.flatMap fun g => bitsOf g.data)

/-- R148 `OL`: the output bytes of a message of `n` blocks. -/
def golayOutLen (n : Nat) : Nat := 8 + byteCount (12 * n)

/-- R148 `GDECF`: operands `src` = ARG0, `M` = ARG1 and `dst` = ARG2. The markers pass through unchecked; all input is read before any output
is written (R86). -/
def gdecfRule (s : State) : Except CmdError State :=
  if s.a1 < 8 ∨ (s.a1 - 8) % 3 ≠ 0 then .error .framing
  else
    let n := (s.a1 - 8) / 3
    if inBounds s.a0 s.a1 = false ∨ inBounds s.a2 (golayOutLen n) = false then .error .bounds
    else
      let rs := golayDecBlocks (unpack (s.buf.bytes (s.a0 + 4) (s.a1 - 8))) n
      let out := s.buf.bytes s.a0 4 ++ golayDecPayload rs ++ s.buf.bytes (s.a0 + s.a1 - 4) 4
      .ok ((((s.store s.a2 out).setFrame n (golayUncorr rs) (golayCorrected rs)).setRes0 (golayOutLen n)).setRes1 (golayUncorr rs))

/-- R148 `GDECF`: decode a framed message. -/
def execGdecf (s : State) : Result := finish s (gdecfRule s)

end Sys2Proof.Machine
end

