-- ==== Sys2Proof/Machine/Prbs.lean ====
section
/-! DEFINITION. The PRBS generator (40_prbs.md): the sequence of R120-R123 and the commands PCFG, PGEN, PGENO and PSEQ (R125-R128). -/

namespace Sys2Proof.Machine

/-- R120: the tap set that `SEL` selects. -/
def prbsTaps (sel : BitVec 2) : List Nat := Config.prbsPoly.getD sel.toNat []

/-- R121: the degree `n` is the largest tap. -/
def prbsDegree (sel : BitVec 2) : Nat := (prbsTaps sel).foldl max 0

/-- R122 `SEED(SEL)`: all ones, `2^n - 1`. -/
def prbsSeed (sel : BitVec 2) : Word := BitVec.ofNat 32 (2 ^ prbsDegree sel - 1)

/-- R122: the feedback bit, the exclusive or of `REG[k-1]` over the taps `k > 0`. -/
def lfsrBit (sel : BitVec 2) (reg : Word) : Bool :=
  ((prbsTaps sel).filter (0 < ·)).foldl (fun acc k => xor acc (reg.getLsbD (k - 1))) false

/-- R122: `((REG << 1) | b) mod 2^n`. -/
def lfsrNext (sel : BitVec 2) (reg : Word) : Word :=
  BitVec.ofNat 32 ((2 * reg.toNat + (lfsrBit sel reg).toNat) % 2 ^ prbsDegree sel)

/-- R122 `REG_i`: the register after `i` steps from the seed. -/
def lfsrReg (sel : BitVec 2) : Nat → Word
  | 0 => prbsSeed sel
  | i + 1 => lfsrNext sel (lfsrReg sel i)

/-- R121, R122 `s_i`: the bit that step `i` produces. -/
def prbsBit (sel : BitVec 2) (i : Nat) : Bool := lfsrBit sel (lfsrReg sel i)

/-- R123 `stream(u, q) = cycle(u, q mod L)`: the register restarts at the seed every `L` bits. -/
def PrbsUnit.stream (p : PrbsUnit) (q : Nat) : Bool := prbsBit p.poly (q % p.len.toNat)

/-- The `n` stream bits from position `x` on; each position wraps modulo `reset_len` on its own (R130). -/
def PrbsUnit.bits (p : PrbsUnit) (x n : Nat) : List Bool := (List.range n).map fun i => p.stream (x + i)

/-- R126: the unit with its cursor moved `n` bits on, and the register that goes with it (R123). -/
def PrbsUnit.advance (p : PrbsUnit) (n : Nat) : PrbsUnit :=
  { p with cur := BitVec.ofNat 32 ((p.cur.toNat + n) % p.len.toNat), reg := lfsrReg p.poly ((p.cur.toNat + n) % p.len.toNat) }

/-- R125: a freshly configured unit. -/
def PrbsUnit.configured (sel : BitVec 2) (len : Word) : PrbsUnit := { poly := sel, len := len, cur := 0, reg := prbsSeed sel }

/-- R125 `PCFG`. -/
def pcfgRule (u sel : Nat) (s : State) : Except CmdError State :=
  if s.a0 = 0 ∨ Config.maxCycleLen < s.a0 then .error .invalidConfig
  else .ok (s.setPrbs u (PrbsUnit.configured (BitVec.ofNat 2 sel) s.ctl.snap.arg0))

/-- R125 `PCFG`: configure PRBS unit `u`. -/
def execPcfg (u sel : Nat) (s : State) : Result := finish s (pcfgRule u sel s)

/-- R126 `PGEN`: operands `dst` = ARG0 and `n` = ARG1. -/
def pgenRule (u : Nat) (s : State) : Except CmdError State :=
  let p := s.prbs u
  if p.len = 0 then .error .notConfigured
  else if inBounds s.a0 (byteCount s.a1) = false then .error .bounds
  else .ok (((s.store s.a0 (pack (p.bits p.cur.toNat s.a1))).setPrbs u (p.advance s.a1)).setRes0 (byteCount s.a1))

/-- R126 `PGEN`: the next `n` stream bits of unit `u` to BUF. -/
def execPgen (u : Nat) (s : State) : Result := finish s (pgenRule u s)

/-- R127 `PGENO`: operands `dst` = ARG0, `n` = ARG1 and `x` = {ARG3, ARG2}. The cursor stays. -/
def pgenoRule (u : Nat) (s : State) : Except CmdError State :=
  let p := s.prbs u
  if p.len = 0 then .error .notConfigured
  else if inBounds s.a0 (byteCount s.a1) = false then .error .bounds
  else .ok ((s.store s.a0 (pack (p.bits s.bitOffset s.a1))).setRes0 (byteCount s.a1))

/-- R127 `PGENO`: `n` stream bits of unit `u` from bit offset `x` to BUF. -/
def execPgeno (u : Nat) (s : State) : Result := finish s (pgenoRule u s)

/-- R128: the bytes of sequence packet `k` with an `L`-bit payload: the little-endian index, then the packed stream bits from offset
`k * L`. -/
def PrbsUnit.packet (p : PrbsUnit) (k L : Nat) : List Byte := leBytes 4 k ++ pack (p.bits (k * L) L)

/-- R128 `PSEQ`: operands `dst` = ARG0, `k` = ARG1 and `L` = ARG2. The cursor stays. -/
def pseqRule (u : Nat) (s : State) : Except CmdError State :=
  let p := s.prbs u
  if p.len = 0 then .error .notConfigured
  else if s.a2 = 0 ∨ s.a2 % 8 ≠ 0 then .error .invalidConfig
  else if inBounds s.a0 (4 + s.a2 / 8) = false then .error .bounds
  else .ok ((s.store s.a0 (p.packet s.a1 s.a2)).setRes0 (4 + s.a2 / 8))

/-- R128 `PSEQ`: one sequence packet of unit `u` to BUF. -/
def execPseq (u : Nat) (s : State) : Result := finish s (pseqRule u s)

end Sys2Proof.Machine
end

