-- ==== Sys2Proof/Machine/Verifier.lean ====
section
/-! DEFINITION. The PRBS verifier and its statistics (42_verifier.md): the commands VCFG, VSEEN, VPKT and VFIN (R170-R173). -/

namespace Sys2Proof.Machine

/-- R170: the verifier configured for `e` packets of `l` bits, every count and statistic 0. `V_IDX` is the host's and stays. -/
def VerRegs.configured (v : VerRegs) (e l : Word) : VerRegs :=
  { expect := e, plen := l, recv := 0, wlen := 0, unc := 0, cor := 0, idx := v.idx, miss := 0, ferq := 0, dup := 0, rcvd := 0,
    vcnt := [], vfinal := false }

/-- R170 `VCFG`: operands `E` = ARG0 and `L` = ARG1. -/
def vcfgRule (s : State) : Except CmdError State :=
  if s.a0 = 0 ∨ Config.maxExpected < s.a0 ∨ s.a1 = 0 ∨ s.a1 % 8 ≠ 0 then .error .invalidConfig
  else .ok { s with ver := s.ver.configured s.ctl.snap.arg0 s.ctl.snap.arg1 }

/-- R170 `VCFG`: configure the verifier. -/
def execVcfg (s : State) : Result := finish s (vcfgRule s)

/-- R171 `VSEEN`. -/
def vseenRule (s : State) : Except CmdError State :=
  if s.ver.expect = 0 then .error .notConfigured
  else .ok { s with ver := { s.ver with recv := satInc s.ver.recv } }

/-- R171 `VSEEN`: count one packet seen. -/
def execVseen (s : State) : Result := finish s (vseenRule s)

/-- R172: what the verifier finds of a packet. -/
inductive Verdict where
  /-- 0: correct, at index `k`. -/
  | correct (k : Nat)
  /-- 1: wrong length. -/
  | wrongLength
  /-- 2: the payload does not match the PRBS at the packet's offset. -/
  | mismatch (k : Nat)
  /-- 3: the payload matches and the index is not expected. -/
  | outOfRange (k : Nat)
deriving DecidableEq, Repr

/-- R172 steps (1)-(5): the verdict on the `n` bytes at `src`, checked against unit 1. The length checked is the whole packet's (C11); the
payload is compared before the range. -/
def verdict (s : State) (src n : Nat) : Verdict :=
  let L := s.ver.plen.toNat
  let k := s.buf.read src 4
  if n ≠ L / 8 + 4 then .wrongLength
  else if s.buf.bytes (src + 4) (L / 8) ≠ pack (s.prbs1.bits (k * L) L) then .mismatch k
  else if s.ver.expect.toNat ≤ k then .outOfRange k
  else .correct k

/-- R172 `RES0`: the verdict's number. -/
def Verdict.number : Verdict → Nat
  | .correct _ => 0
  | .wrongLength => 1
  | .mismatch _ => 2
  | .outOfRange _ => 3

/-- R172 `RES1`: the packet index, 0 where the length is wrong. -/
def Verdict.index : Verdict → Nat
  | .correct k => k
  | .wrongLength => 0
  | .mismatch k => k
  | .outOfRange k => k

/-- R172: what a verdict counts; only a correct packet touches the per-index array. -/
def VerRegs.tally (v : VerRegs) : Verdict → VerRegs
  | .correct k => { v with vcnt := cellPut v.vcnt k (satInc (v.count k)), cor := satInc v.cor }
  | .wrongLength => { v with wlen := satInc v.wlen }
  | .mismatch _ => { v with unc := satInc v.unc }
  | .outOfRange _ => { v with unc := satInc v.unc }

/-- R172 `VPKT`: operands `src` = ARG0 and `n` = ARG1. -/
def vpktRule (s : State) : Except CmdError State :=
  if s.ver.expect = 0 ∨ s.prbs1.len = 0 then .error .notConfigured
  else if inBounds s.a0 s.a1 = false then .error .bounds
  else
    let v := verdict s s.a0 s.a1
    .ok ((State.setRes0 { s with ver := s.ver.tally v } v.number).setRes1 v.index)

/-- R172 `VPKT`: check one packet and count it. -/
def execVpkt (s : State) : Result := finish s (vpktRule s)

/-- R173 `k`: how many of the indices `0 .. e-1` have been received. -/
def VerRegs.received (v : VerRegs) (e : Nat) : Nat := (List.range e).countP fun i => decide (1 ≤ (v.count i).toNat)

/-- R173: the receptions beyond the first, over the indices `0 .. e-1`. -/
def VerRegs.duplicates (v : VerRegs) (e : Nat) : Nat := ((List.range e).map fun i => (v.count i).toNat - 1).sum

/-- R173: the statistics as the first `VFIN` computes them. -/
def VerRegs.finalized (v : VerRegs) : VerRegs :=
  let e := v.expect.toNat
  let k := v.received e
  { v with rcvd := BitVec.ofNat 32 k, miss := BitVec.ofNat 32 (e - k), ferq := BitVec.ofNat 32 ((e - k) * 65536 / e),
           dup := BitVec.ofNat 32 (satu32 (v.duplicates e)), vfinal := true }

/-- R173: finalize once; a finalized verifier keeps what it computed. -/
def VerRegs.finalize (v : VerRegs) : VerRegs := if v.vfinal then v else v.finalized

/-- R173 `VFIN`. -/
def vfinRule (s : State) : Except CmdError State :=
  if s.ver.expect = 0 then .error .notConfigured
  else
    let v := s.ver.finalize
    .ok ((State.setRes0 { s with ver := v } v.miss.toNat).setRes1 v.dup.toNat)

/-- R173 `VFIN`: finalize the statistics. -/
def execVfin (s : State) : Result := finish s (vfinRule s)

end Sys2Proof.Machine
end

