-- ==== Sys2Proof/Machine/Dispatch.lean ====
section
/-! DEFINITION. The dispatch of a decoded command to its meaning (44_control.md R231), one arm per constructor. -/

namespace Sys2Proof.Machine

def exec (i : Instr) (s : State) : Host.Outcome State Fault Refusal :=
  match i with
  | .nop => Sys2Proof.Machine.execNop s
  | .pcfg u sel => Sys2Proof.Machine.execPcfg u sel s
  | .pgen u => Sys2Proof.Machine.execPgen u s
  | .pgeno u => Sys2Proof.Machine.execPgeno u s
  | .pseq u => Sys2Proof.Machine.execPseq u s
  | .genc => Sys2Proof.Machine.execGenc s
  | .gdec => Sys2Proof.Machine.execGdec s
  | .gencf => Sys2Proof.Machine.execGencf s
  | .gdecf => Sys2Proof.Machine.execGdecf s
  | .vcfg => Sys2Proof.Machine.execVcfg s
  | .vseen => Sys2Proof.Machine.execVseen s
  | .vpkt => Sys2Proof.Machine.execVpkt s
  | .vfin => Sys2Proof.Machine.execVfin s
  | .dinterp => Sys2Proof.Machine.execDinterp s
  | .dshift => Sys2Proof.Machine.execDshift s
  | .dstart => Sys2Proof.Machine.execDstart s
  | .dstop => Sys2Proof.Machine.execDstop s

end Sys2Proof.Machine
end

