-- ==== Sys2Proof/Machine/Agents.lean ====
section
/-! DEFINITION. The agents' atomic steps (60_exceptions.md R256) and the order the agenda gives them (20_memory.md R91; log 1, log 2, log 3). -/

namespace Sys2Proof.Machine

/-- R231 `execute()`: decode the pending word; an illegal one completes with `ILLEGAL_CMD`, a legal one runs its rule and completes. -/
def engineStep (s : State) : Result :=
  match decode s.ctl.cmd with
  | .ok i => exec i s
  | .error _ => .next (s.complete (some .illegalCmd))

/-- R211: a tick: `D_NOW` advances by `TICK_NS` modulo 2^64, and the scheduler is evaluated. -/
def tickStep (s : State) : State :=
  schedEval { s with dop := { s.dop with now := s.dop.now + BitVec.ofNat 64 Config.tickNs } }

/-- The engine's turn: it executes the pending command, and does nothing when there is none, since its step is then not enabled (R231;
log 3). -/
def engineTurn (s : State) : Result := if s.ctl.busy then engineStep s else .next s

/-- When the agenda lists nothing, the engine executes a pending command and otherwise the clock ticks (R100, R211: both go on forever;
log 1). -/
def idleStep (s : State) : Result := if s.ctl.busy then engineStep s else .next (tickStep s)

/-- The host's turn: a held BUF access stays first in the agenda while the engine executes the pending command (R83; log 2); any other access
takes effect. `rest` is the agenda after it. -/
def hostTurn (a : HostAccess) (rest : List Event) (s : State) : Result :=
  if s.holds a then engineStep s else hostStep a { s with agenda := rest }

/-- R91, R256: one atomic step, of the agent the agenda names first. -/
def agendaStep (s : State) : Result :=
  match s.agenda with
  | [] => idleStep s
  | .tick :: rest => .next (tickStep { s with agenda := rest })
  | .engine :: rest => engineTurn { s with agenda := rest }
  | .host a :: rest => hostTurn a rest s

end Sys2Proof.Machine
end

