-- ==== Sys2Proof/Machine/Step.lean ====
section
/-! DEFINITION. The one step function, and how the host places a command where the next step fetches it (log 10). -/

namespace Sys2Proof.Machine

/-- One atomic step of the machine (20_memory.md R91). -/
def step (s : State) : Host.Outcome State Fault Refusal := agendaStep s

/-- The state in which the word an opcode-table row's bits stand for has just been accepted by a `CMD` write (R33), with the engine's
turn next: the very next step executes it. The block fetches nothing (R31), so this stands for the host's write (log 10). -/
def State.withFetchWord (s : State) (nbits w : Nat) : State :=
  { s.accept (Sys2Proof.tableWord nbits w) with agenda := .engine :: s.agenda }

end Sys2Proof.Machine
end

