-- ==== Sys2Proof/Machine/HostProgram.lean ====
section
/-! DEFINITION. The line syntax and pseudo-instructions in which the spec writes host programs (30_encoding.md R109, R110), as agenda events. A program is a
list of accesses that the environment makes; the engine's turns and the ticks between them are the agenda's to choose (log 1). -/

namespace Sys2Proof.Machine

/-- R109 `sw NAME, v`. -/
def swReg (r : Reg) (v : Word) : Event := .host (.write (regOffset r) 4 v)

/-- R109 `lw NAME`. -/
def lwReg (r : Reg) : Event := .host (.read (regOffset r) 4)

/-- R109 `sb BUF+a, v`. -/
def sbBuf (a : Nat) (v : Word) : Event := .host (.write (0x10000 + a) 1 v)

/-- R109 `sh BUF+a, v`. -/
def shBuf (a : Nat) (v : Word) : Event := .host (.write (0x10000 + a) 2 v)

/-- R109 `sw BUF+a, v`. -/
def swBuf (a : Nat) (v : Word) : Event := .host (.write (0x10000 + a) 4 v)

/-- R109 `lb BUF+a`. -/
def lbBuf (a : Nat) : Event := .host (.read (0x10000 + a) 1)

/-- R109 `lh BUF+a`. -/
def lhBuf (a : Nat) : Event := .host (.read (0x10000 + a) 2)

/-- R109 `lw BUF+a`. -/
def lwBuf (a : Nat) : Event := .host (.read (0x10000 + a) 4)

/-- R109 `cmd MNEMONIC ...`: a write of the command's word to `CMD`. -/
def cmdLine (i : Instr) : Event := swReg .cmd (encode i)

/-- R109 `tick k`: `k` environment ticks. -/
def ticks (k : Nat) : List Event := List.replicate k .tick

/-- R110 `wait`: `k` polls of `STATUS` made before the engine's turn, which read `BUSY = 1` while a command is pending, then the engine's turn and the poll that
reads 0. How many polls come first is open (R100, U10), so it is an argument; that nothing else comes between them is a DESIGN CHOICE of this rendering
(log 16). -/
def waitLines (k : Nat) : List Event := List.replicate k (lwReg .status) ++ [.engine, lwReg .status]

/-- R110 `run MNEMONIC ...`, with `k` polls that read `BUSY = 1` before the command executes. When the engine executes it is open (R100, U10): `k` is an argument, and
that no tick and no other agent's access comes in between is a DESIGN CHOICE of this rendering (log 16). -/
def runLines (i : Instr) (k : Nat) : List Event := cmdLine i :: waitLines k

/-- R110 `sd NAME, v`. -/
def sdLines (r : Reg64) (v : DWord) : List Event := [swReg (.lo r) (v.extractLsb' 0 32), swReg (.hi r) (v.extractLsb' 32 32)]

/-- R110 `ld NAME`. -/
def ldLines (r : Reg64) : List Event := [lwReg (.lo r), lwReg (.hi r)]

/-- R110 `args a0, a1, a2, a3`: trailing operands may be omitted, and an omitted one is not written. -/
def argsLines (vs : List Word) : List Event := List.zipWith swReg [.arg0, .arg1, .arg2, .arg3] vs

/-- R110 `ack`. -/
def ackLine : Event := swReg .irqPend 0x3F

/-- R110 `enc12 d`, its `run` with `k` busy polls (log 16). -/
def enc12Lines (d : Word) (k : Nat) : List Event := swReg .gDin d :: runLines .genc k ++ [lwReg .gCout]

/-- R110 `dec24 r`, its `run` with `k` busy polls (log 16). -/
def dec24Lines (r : Word) (k : Nat) : List Event := swReg .gCin r :: runLines .gdec k ++ [lwReg .gDout, lwReg .gDstat]

/-- R110 `srst`. -/
def srstLine : Event := swReg .ctrl 1

end Sys2Proof.Machine
end

