-- ==== Sys2Proof/Safety.lean ====
section
/-! DEFINITION. What a state that a run reaches always satisfies, unit by unit (the invariant `Inv`), and which agendas keep inside the block. Claims are stated
in these terms. -/

namespace Sys2Proof.Machine

/-- R35, R240: `RESULT` bits 23:8 read 0 and the reserved codes 0x09-0xFF are never produced. -/
abbrev ctlOk (c : Ctl) : Prop := c.result.extractLsb' 8 16 = 0 ∧ (c.result.extractLsb' 0 8).toNat ≤ 8

/-- R45, R47: `G_DSTAT` holds 0 to 3, or 4 with `UNCORR`; the frame counters fit the blocks of the last frame. -/
abbrev golayOk (g : GolayRegs) : Prop :=
  (g.dstat = 0 ∨ g.dstat = 1 ∨ g.dstat = 2 ∨ g.dstat = 3 ∨ g.dstat = 0x104) ∧
    g.func.toNat ≤ g.fblk.toNat ∧ g.fcor.toNat ≤ 3 * (g.fblk.toNat - g.func.toNat)

/-- R48, R123: an unconfigured unit holds its reset values; a configured one has its cursor inside the cycle and the register that goes with
the cursor. -/
abbrev prbsOk (p : PrbsUnit) : Prop :=
  (p.len = 0 → p = PrbsUnit.reset) ∧ (p.len ≠ 0 → p.cur.toNat < p.len.toNat ∧ p.reg = lfsrReg p.poly p.cur.toNat)

/-- R49, R52, R63: an unconfigured verifier holds its reset values but for `V_IDX`; a configured one has a legal configuration; the counts are listed in
canonical form and only for expected indices; the statistics read 0 until finalized, and then they are those of `V_RCVD`. -/
abbrev verOk (v : VerRegs) : Prop :=
  (v.expect = 0 → v = { VerRegs.reset with idx := v.idx }) ∧
    (v.expect ≠ 0 → v.expect.toNat ≤ Config.maxExpected ∧ v.plen ≠ 0 ∧ v.plen.toNat % 8 = 0) ∧
    keysRise v.vcnt ∧ (∀ c ∈ v.vcnt, c.1 < v.expect.toNat ∧ c.2 ≠ 0) ∧
    (v.vfinal = false → v.miss = 0 ∧ v.ferq = 0 ∧ v.dup = 0 ∧ v.rcvd = 0) ∧
    (v.vfinal = true → v.rcvd.toNat + v.miss.toNat = v.expect.toNat ∧ v.ferq.toNat = v.miss.toNat * 65536 / v.expect.toNat)

/-- R58, R212, R216: the sample index never passes the count, the table lies in BUF, every handled sample was published or skipped, and a running scheduler
waits for a latched sample whose time has not come. -/
abbrev schedOk (d : DopRegs) : Prop :=
  d.idx.toNat ≤ d.cnt.toNat ∧ inBounds d.base.toNat (16 * d.cnt.toNat) = true ∧ d.pubn.toNat + d.skipn.toNat = d.idx.toNat ∧
    (d.drun = true → d.phase = .wait ∧ d.idx.toNat < d.cnt.toNat ∧ d.now < d.lt)

/-- R193, R218 (b): every publish record was made when its time had come, with shifts inside the s64 range. -/
abbrev historyOk (h : List Publish) : Prop :=
  ∀ p ∈ h, p.t ≤ p.now ∧ -(2 ^ 63) ≤ p.dl ∧ p.dl < 2 ^ 63 ∧ -(2 ^ 63) ≤ p.ul ∧ p.ul < 2 ^ 63

/-- What every state that a run reaches satisfies. -/
structure State.Inv (s : State) : Prop where
  mem : Memory.wf s.buf
  ctl : ctlOk s.ctl
  golay : golayOk s.golay
  prbs0 : prbsOk s.prbs0
  prbs1 : prbsOk s.prbs1
  ver : verOk s.ver
  sched : schedOk s.dop
  history : historyOk s.history

/-- R212 `sched_eval()` as the rule writes it, an unbounded loop: `Evaluates s t` says that the loop started at `s` returns with `t`. What `skip()`, `publish()` and
the end of the table write is written out here from R214-R216 and R248, apart from the model's own operations. -/
inductive Evaluates : State → State → Prop where
  /-- "if S.drun = 0 then return". -/
  | stopped {s : State} (hrun : s.dop.drun = false) : Evaluates s s
  /-- "if D_IDX = D_CNT then S.drun <- 0 ; IRQ_PEND.D_DONE <- 1 ; return". -/
  | finished {s : State} (hrun : s.dop.drun = true) (hidx : s.dop.idx = s.dop.cnt) :
      Evaluates s { s with dop := { s.dop with drun := false }, ctl := { s.ctl with irqPend := s.ctl.irqPend ||| 0b100000 } }
  /-- Phase REACH, and the sample's time has passed: "skip() ; continue". -/
  | skips {s t : State} (hrun : s.dop.drun = true) (hidx : s.dop.idx ≠ s.dop.cnt) (hphase : s.dop.phase = .reach)
      (htime : (sampleAt s.buf s.dop.base.toNat s.dop.idx.toNat).t < s.dop.now.toNat)
      (hgo : Evaluates { s with
        dop := { s.dop with skipn := BitVec.ofNat 32 (min (s.dop.skipn.toNat + 1) (2 ^ 32 - 1)), idx := s.dop.idx + 1 }
        ctl := { s.ctl with irqPend := s.ctl.irqPend ||| 0b010000 } } t) : Evaluates s t
  /-- Phase REACH, and the sample's time has not passed: it is latched and the phase becomes WAIT. -/
  | latches {s t : State} (hrun : s.dop.drun = true) (hidx : s.dop.idx ≠ s.dop.cnt) (hphase : s.dop.phase = .reach)
      (htime : s.dop.now.toNat ≤ (sampleAt s.buf s.dop.base.toNat s.dop.idx.toNat).t)
      (hgo : Evaluates { s with dop := { s.dop with
        lt := BitVec.ofNat 64 (sampleAt s.buf s.dop.base.toNat s.dop.idx.toNat).t
        lr := enc64 (sampleAt s.buf s.dop.base.toNat s.dop.idx.toNat).r
        phase := .wait } } t) : Evaluates s t
  /-- Phase WAIT, "if D_NOW >= D_LT then publish() ; continue". -/
  | publishes {s t : State} (hrun : s.dop.drun = true) (hidx : s.dop.idx ≠ s.dop.cnt) (hphase : s.dop.phase = .wait)
      (htime : s.dop.lt ≤ s.dop.now)
      (hgo : Evaluates { s with
        dop := { s.dop with
          dl := enc64 (shift s.dop.fdl.toNat s.dop.lr.toInt), ul := enc64 (shift s.dop.ful.toNat s.dop.lr.toInt), pt := s.dop.lt
          pubn := BitVec.ofNat 32 (min (s.dop.pubn.toNat + 1) (2 ^ 32 - 1)), idx := s.dop.idx + 1, phase := .reach }
        ctl := { s.ctl with irqPend := s.ctl.irqPend ||| 0b001000 }
        history := s.history ++ [{ t := s.dop.lt, now := s.dop.now, dl := shift s.dop.fdl.toNat s.dop.lr.toInt,
                                   ul := shift s.dop.ful.toNat s.dop.lr.toInt }] } t) : Evaluates s t
  /-- Phase WAIT, and the latched sample's time is still in the future: "return". -/
  | waits {s : State} (hrun : s.dop.drun = true) (hidx : s.dop.idx ≠ s.dop.cnt) (hphase : s.dop.phase = .wait)
      (htime : s.dop.now < s.dop.lt) : Evaluates s s

/-- The access reaches the block: its offset is in register space or in BUF (R81). -/
def HostAccess.inside (a : HostAccess) : Bool := decide (a.offset < 0x10000 + Config.bufSize)

/-- The event is no host access outside the block: a run of such events never faults. -/
def Event.inside : Event → Bool
  | .host a => a.inside
  | .tick => true
  | .engine => true

/-- Every host access of the agenda reaches the block: the run of this agenda is safe, that is, no step of it faults. -/
def State.agendaInside (s : State) : Bool := s.agenda.all Event.inside

/-- The step went on. -/
def isNext : Result → Bool
  | .next _ => true
  | .fault _ => false
  | .refused _ => false

end Sys2Proof.Machine
end

