-- ==== Sys2Proof/Certificates/Slice0/Obligations.lean ====
section
/-! DEFINITION. The statements for the provers. Each docstring names the rule of spec/ it formalises, or the log entry it rests on. -/

namespace Sys2Proof.Claim

open Sys2Proof.Machine

/-- The control block after a completion with OK (60_exceptions.md R241) that writes no result register. -/
def doneCtl (c : Ctl) : Ctl :=
  { c with result := c.cmd.extractLsb' 24 8 ++ 0#16 ++ 0x00#8, irqPend := c.irqPend ||| 0b000001, busy := false }

/-- The control block after a completion with an error code, which writes no result register (R241, R243). -/
def failCtl (c : Ctl) (code : BitVec 8) : Ctl :=
  { c with result := c.cmd.extractLsb' 24 8 ++ 0#16 ++ code, irqPend := c.irqPend ||| 0b000011, busy := false }

/-- R243: the state after a failing command: nothing but the completion state has changed. -/
def failed (s : State) (code : BitVec 8) : State := { s with ctl := failCtl s.ctl code }

/-- Bit `i` of the bit stream stored at address `a` (R18, R90): the first bit is the most significant bit of the first byte. -/
def bitAt (s : State) (a i : Nat) : Bool := (s.byteAt (a + i / 8)).getLsbD (7 - i % 8)

/-- Every byte of BUF outside the `n` bytes at `a` reads as before. -/
def keepsOutside (s t : State) (a n : Nat) : Prop := ∀ x, x < a ∨ a + n ≤ x → t.byteAt x = s.byteAt x

/-- Every byte of BUF reads as before. -/
def keepsBuf (s t : State) : Prop := ∀ x, t.byteAt x = s.byteAt x

/-- The state outside the control block, the Golay unit, the PRBS units, the verifier, the Doppler unit and BUF. -/
def keepsRest (s t : State) : Prop :=
  t.wsh = s.wsh ∧ t.rsh = s.rsh ∧ t.history = s.history ∧ t.agenda = s.agenda ∧ t.resp = s.resp

/-- Every unit but the Golay unit, the control block and BUF. -/
def keepsAllButGolay (s t : State) : Prop :=
  t.prbs0 = s.prbs0 ∧ t.prbs1 = s.prbs1 ∧ t.ver = s.ver ∧ t.dop = s.dop ∧ keepsRest s t

/-- Every unit; the control block and BUF apart. -/
def keepsUnits (s t : State) : Prop := t.golay = s.golay ∧ keepsAllButGolay s t

/-- The code of `RESULT` (R35). -/
def codeOf (s : State) : BitVec 8 := s.ctl.result.extractLsb' 0 8

/-- The table of R240: when an error condition holds for a command, apart from the order in which a rule tests its conditions. `ILLEGAL_CMD` is decided
from the word alone (R242), so it holds for no decoded command. -/
def errorHolds (s : State) (i : Instr) (e : CmdError) : Prop :=
  match e, i with
  | .notConfigured, .pgen u => (s.prbs u).len = 0
  | .notConfigured, .pgeno u => (s.prbs u).len = 0
  | .notConfigured, .pseq u => (s.prbs u).len = 0
  | .notConfigured, .vseen => s.ver.expect = 0
  | .notConfigured, .vpkt => s.ver.expect = 0 ∨ s.prbs1.len = 0
  | .notConfigured, .vfin => s.ver.expect = 0
  | .invalidConfig, .pcfg _ _ => s.a0 = 0 ∨ 2 ^ 32 - 1 < s.a0
  | .invalidConfig, .pseq _ => s.a2 = 0 ∨ s.a2 % 8 ≠ 0
  | .invalidConfig, .vcfg => s.a1 = 0 ∨ s.a1 % 8 ≠ 0 ∨ s.a0 = 0 ∨ 65536 < s.a0
  | .invalidConfig, .dinterp => s.a3 = 0
  | .framing, .gencf => s.a1 % 3 ≠ 0
  | .framing, .gdecf => s.a1 < 8 ∨ (s.a1 - 8) % 3 ≠ 0
  | .bounds, .pgen _ => inBounds s.a0 ((s.a1 + 7) / 8) = false
  | .bounds, .pgeno _ => inBounds s.a0 ((s.a1 + 7) / 8) = false
  | .bounds, .pseq _ => inBounds s.a0 (4 + s.a2 / 8) = false
  | .bounds, .gencf => inBounds s.a0 s.a1 = false ∨ inBounds s.a2 (8 + 2 * s.a1) = false
  | .bounds, .gdecf => inBounds s.a0 s.a1 = false ∨ inBounds s.a2 (8 + (12 * ((s.a1 - 8) / 3) + 7) / 8) = false
  | .bounds, .vpkt => inBounds s.a0 s.a1 = false
  | .bounds, .dinterp =>
    inBounds s.a0 (16 * s.a1) = false ∨ inBounds s.a2 (16 * if s.a1 = 0 then 0 else (s.a1 - 1) * s.a3 + 1) = false
  | .bounds, .dstart => inBounds s.a0 (16 * s.a1) = false
  | .notMonotonic, .dinterp => ∃ k, k + 1 < s.a1 ∧ (sampleAt s.buf s.a0 (k + 1)).t ≤ (sampleAt s.buf s.a0 k).t
  | .schedBusy, .dstart => s.dop.drun = true
  | .emptyPlan, .dstart => s.a1 = 0
  | _, _ => False

/-- R241: `t` is `s` after a completion with some code: `RESULT`, the pending bits and `BUSY` as the rule says, and the operands still readable. -/
def endsWithCompletion (s t : State) : Prop :=
  t.ctl.busy = false ∧ t.ctl.result = s.ctl.cmd.extractLsb' 24 8 ++ 0#16 ++ codeOf t ∧ (codeOf t).toNat ≤ 8 ∧
    t.ctl.irqPend.getLsbD 0 = true ∧ t.ctl.irqPend.getLsbD 1 = (s.ctl.irqPend.getLsbD 1 || decide (codeOf t ≠ 0)) ∧
    t.ctl.irqPend.getLsbD 2 = s.ctl.irqPend.getLsbD 2 ∧
    t.ctl.irqEn = s.ctl.irqEn ∧ t.ctl.arg0 = s.ctl.arg0 ∧ t.ctl.arg1 = s.ctl.arg1 ∧ t.ctl.arg2 = s.ctl.arg2 ∧ t.ctl.arg3 = s.ctl.arg3

/-- The operand registers that only a snapshot carries to a pending command (R62), and the low halves of the carrier frequencies, which are
shadows until committed (R88). -/
def operandRegs : List Reg :=
  [.arg0, .arg1, .arg2, .arg3, .gDin, .gCin, .gPre, .gPost, .lo .rr, .hi .rr, .lo .fdl, .lo .ful]

/-- The sequence element `k` bits before bit `t` of a polynomial's sequence; before the start every element is 1 (R121). -/
def seqBefore (sel : BitVec 2) (t k : Nat) : Bool := if k ≤ t then prbsBit sel (t - k) else true

/-- The state in which a `VPKT` finds its operands in the snapshot: `src` and `n` (R172). -/
def withPacket (s : State) (p : Word × Word) : State :=
  { s with ctl := { s.ctl with snap := { s.ctl.snap with arg0 := p.1, arg1 := p.2 } } }

/-- The verifier after packets are delivered, each by one `VPKT`. -/
def deliver (s : State) : List (Word × Word) → State
  | [] => s
  | p :: ps =>
    match exec .vpkt (withPacket s p) with
    | .next t => deliver t ps
    | .fault _ => s
    | .refused _ => s

/-- The scheduler's own registers: what an evaluation may change besides the published shifts and pending bits (R58, R59, R60, R57). -/
def schedView (d : DopRegs) : Word × Word × Word × Phase × DWord × DWord × Word × Word × DWord :=
  (d.base, d.cnt, d.idx, d.phase, d.lt, d.lr, d.pubn, d.skipn, d.pt)

/-- The step of this state executes the pending command: the engine is the agent that steps (R231; the agenda's forms of log 1 and log 2). -/
def engineSteps (s : State) : Prop :=
  s.ctl.busy = true ∧
    (s.agenda = [] ∨ (∃ rest, s.agenda = .engine :: rest) ∨ ∃ a rest, s.agenda = .host a :: rest ∧ s.holds a = true)

/-- The sample that an evaluation from `s` handles at index `i`: the latched one where `s` waits for it (R60), otherwise the record in BUF (R97, R191). -/
def dueSample (s : State) (i : Nat) : Sample :=
  if s.dop.phase = .wait ∧ i = s.dop.idx.toNat then { t := s.dop.lt.toNat, r := s.dop.lr.toInt } else sampleAt s.buf s.dop.base.toNat i

/-- R193, written out: the shift in millihertz of a carrier frequency and a range rate, rounded toward zero and limited to the signed 64-bit range. -/
def millihertz (f : DWord) (r : Int) : Int := max (-(2 ^ 63)) (min (2 ^ 63 - 1) (((f.toNat : Int) * r).tdiv 299792458000))

/-- R214: the record of publishing sample `i` in an evaluation from `s`. -/
def publishOf (s : State) (i : Nat) : Publish :=
  { t := BitVec.ofNat 64 (dueSample s i).t, now := s.dop.now, dl := millihertz s.dop.fdl (dueSample s i).r,
    ul := millihertz s.dop.ful (dueSample s i).r }

/-- The 32-bit registers that ignore writes (D37): the read-only ones of R32-R60, the 64-bit ones apart (R88). -/
def readOnlyRegs : List Reg :=
  [.id, .status, .result, .res0, .res1, .gCout, .gDout, .gDstat, .gFblk, .gFunc, .gFcor, .pPoly 0, .pLen 0, .pCur 0, .pReg 0, .pPoly 1, .pLen 1,
    .pCur 1, .pReg 1, .vExp, .vPlen, .vRecv, .vWlen, .vUnc, .vCor, .vCnt, .vMiss, .vFerq, .vDup, .vRcvd, .dBase, .dCnt, .dIdx, .dPubn, .dSkipn,
    .dPhase]

/-- The register map of 10_state.md section 2 by its offsets, STATUS apart (R34): the state each offset reads (R32-R60), with the bits that do not exist read as 0. -/
def mapReads (s : State) : List (Nat × Word) :=
  [(0x000, 0x53430001), (0x004, 0), (0x00C, s.ctl.result), (0x010, s.ctl.irqPend.setWidth 32), (0x014, s.ctl.irqEn.setWidth 32), (0x018, 0),
    (0x020, s.ctl.arg0), (0x024, s.ctl.arg1), (0x028, s.ctl.arg2), (0x02C, s.ctl.arg3), (0x030, s.ctl.res0), (0x034, s.ctl.res1)] ++
  [(0x040, s.golay.din.setWidth 32), (0x044, s.golay.cout.setWidth 32), (0x048, s.golay.cin.setWidth 32), (0x04C, s.golay.dout.setWidth 32),
    (0x050, s.golay.dstat), (0x054, s.golay.pre), (0x058, s.golay.post), (0x05C, s.golay.fblk), (0x060, s.golay.func), (0x064, s.golay.fcor)] ++
  [(0x080, s.prbs0.poly.setWidth 32), (0x084, s.prbs0.len), (0x088, s.prbs0.cur), (0x08C, s.prbs0.reg),
    (0x0A0, s.prbs1.poly.setWidth 32), (0x0A4, s.prbs1.len), (0x0A8, s.prbs1.cur), (0x0AC, s.prbs1.reg)] ++
  [(0x0C0, s.ver.expect), (0x0C4, s.ver.plen), (0x0C8, s.ver.recv), (0x0CC, s.ver.wlen), (0x0D0, s.ver.unc), (0x0D4, s.ver.cor), (0x0D8, s.ver.idx),
    (0x0DC, if s.ver.idx.toNat < s.ver.expect.toNat then s.ver.count s.ver.idx.toNat else 0),
    (0x0E0, s.ver.miss), (0x0E4, s.ver.ferq), (0x0E8, s.ver.dup), (0x0EC, s.ver.rcvd)] ++
  [(0x100, s.dop.now.extractLsb' 0 32), (0x108, s.dop.fdl.extractLsb' 0 32), (0x110, s.dop.ful.extractLsb' 0 32), (0x118, s.dop.rr.extractLsb' 0 32),
    (0x120, s.dop.dl.extractLsb' 0 32), (0x128, s.dop.ul.extractLsb' 0 32), (0x130, s.dop.pt.extractLsb' 0 32),
    (0x150, s.dop.lt.extractLsb' 0 32), (0x158, s.dop.lr.extractLsb' 0 32)] ++
  [(0x104, s.rsh.now), (0x10C, s.rsh.fdl), (0x114, s.rsh.ful), (0x11C, s.rsh.rr), (0x124, s.rsh.dl), (0x12C, s.rsh.ul), (0x134, s.rsh.pt),
    (0x154, s.rsh.lt), (0x15C, s.rsh.lr)] ++
  [(0x138, s.dop.base), (0x13C, s.dop.cnt), (0x140, s.dop.idx), (0x144, s.dop.pubn), (0x148, s.dop.skipn),
    (0x14C, if s.dop.phase = .wait then 1 else 0)]

end Sys2Proof.Claim

open Sys2Proof Sys2Proof.Machine Sys2Proof.Claim

/-! ## Encoding -/

/-- 30_encoding.md R101-R106: decoding the word of a well-formed instruction gives the instruction back, with every field at every value. -/
def Obligations.DecodeOfEncodeIsTheInstruction : Prop :=
  ∀ i : Instr, i.wellFormed = true → decode (encode i) = .ok i

/-- 30_encoding.md R101-R108: the decoder yields only well-formed instructions, and a word that decodes to one is that instruction's only word. -/
def Obligations.DecodedInstructionHasOnlyThatWord : Prop :=
  ∀ (w : Word) (i : Instr), decode w = .ok i → i.wellFormed = true ∧ encode i = w

/-- 30_encoding.md R107, R108: exactly the words that are not illegal decode. -/
def Obligations.WordDecodesExactlyWhenLegal : Prop :=
  ∀ w : Word, (∃ i, decode w = .ok i) ↔ legalWord w = true

/-- 30_encoding.md R107: when an illegal word is executed, the command completes with ILLEGAL_CMD and nothing else changes. -/
def Obligations.IllegalWordOnlyCompletesWithIllegalCmd : Prop :=
  ∀ s : State, legalWord s.ctl.cmd = false →
    engineStep s = .next (failed s 0x01) ∧
      ∀ rest, s.ctl.busy = true → s.agenda = .engine :: rest → step s = .next { failed s 0x01 with agenda := rest }

/-- 30_encoding.md R106, 95_test_vectors.md 2.1: words written out in the spec decode to the commands it names, or to none. -/
def Obligations.SpecWordsDecodeAsListed : Prop :=
  decode 0x00000000 = .ok .nop ∧ decode 0x10800003 = .ok (.pcfg 1 3) ∧ decode 0x11800000 = .ok (.pgen 1) ∧
    decode 0x22000000 = .ok .gencf ∧ decode 0x32000000 = .ok .vpkt ∧ decode 0x42000000 = .ok .dstart ∧
    decode 0x10400000 = .error (.reservedBits 0x10) ∧ decode 0x44000000 = .error (.unassignedOpcode 0x44)

/-! ## The command engine -/

/-- 44_control.md R231: a step of the engine is the execution of the command the pending word decodes to. Which agent steps is the agenda's to say
(log 1, log 2): the engine named first, an empty agenda, or a held BUF access first. -/
def Obligations.StepRunsTheDecodedCommand : Prop :=
  ∀ (s : State) (i : Instr), s.ctl.busy = true → decode s.ctl.cmd = .ok i →
    (s.agenda = [] → step s = exec i s) ∧
    (∀ rest, s.agenda = .engine :: rest → step s = exec i { s with agenda := rest }) ∧
    (∀ a rest, s.agenda = .host a :: rest → s.holds a = true → step s = exec i s)

/-- 44_control.md R230: NOP does nothing except complete; with its word pending, `RESULT` is 0x00000000. -/
def Obligations.NopOnlyCompletes : Prop :=
  decode 0x00000000 = .ok .nop ∧ ∀ s : State, s.ctl.cmd = encode .nop →
    exec .nop s = .next { s with ctl := { s.ctl with result := 0x00000000, irqPend := s.ctl.irqPend ||| 0b000001, busy := false } }

/-- 60_exceptions.md R241: every execution, of a legal or an illegal word, ends with the completion actions, whatever its result, and the operand registers
stay as the host left them. -/
def Obligations.EveryCommandEndsWithCompletion : Prop :=
  (∀ (i : Instr) (s : State), ∃ t, exec i s = .next t ∧ endsWithCompletion s t) ∧
    ∀ s : State, ∃ t, engineStep s = .next t ∧ endsWithCompletion s t

/-- 60_exceptions.md R243: a command that raises an error changes nothing except the completion state. -/
def Obligations.FailingCommandChangesOnlyCompletionState : Prop :=
  ∀ (i : Instr) (s t : State), exec i s = .next t → codeOf t ≠ 0 → t = failed s (codeOf t)

/-- 60_exceptions.md R242 with the conditions of R240: the result is the lowest-numbered code among the conditions that hold, and OK when none holds;
ILLEGAL_CMD is decided from the word alone. -/
def Obligations.LowestErrorCodeWins : Prop :=
  (∀ (i : Instr) (s : State), ∃ t, exec i s = .next t ∧
    ((codeOf t = 0 ∧ ∀ e, ¬ errorHolds s i e) ∨
      ∃ e, errorHolds s i e ∧ codeOf t = resultCode (some e) ∧
        ∀ f, errorHolds s i f → (resultCode (some e)).toNat ≤ (resultCode (some f)).toNat)) ∧
    ∀ s : State, ∃ t, engineStep s = .next t ∧ (codeOf t = 0x01 ↔ legalWord s.ctl.cmd = false)

/-- 10_state.md R33, 60_exceptions.md R246: a CMD write is accepted while not busy, with the word and the operands captured, and dropped with CMD_OVR while
busy; CMD reads 0; `S.cmd` is 0 after reset. That the answer to a write carries data 0 is the model's choice (log 9). -/
def Obligations.CmdWriteIsAcceptedOrDropped : Prop :=
  (∀ (s : State) (rest : List Event) (v : Word), s.agenda = .host (.write 0x004 4 v) :: rest → s.ctl.busy = false →
    step s = .next { s with
      ctl := { s.ctl with cmd := v, busy := true, snap :=
        { arg0 := s.ctl.arg0, arg1 := s.ctl.arg1, arg2 := s.ctl.arg2, arg3 := s.ctl.arg3, gDin := s.golay.din, gCin := s.golay.cin,
          gPre := s.golay.pre, gPost := s.golay.post, dRr := s.dop.rr, dFdl := s.dop.fdl, dFul := s.dop.ful } }
      agenda := rest, resp := some { data := 0, error := false } }) ∧
  (∀ (s : State) (rest : List Event) (v : Word), s.agenda = .host (.write 0x004 4 v) :: rest → s.ctl.busy = true →
    step s = .next { s with
      ctl := { s.ctl with irqPend := s.ctl.irqPend ||| 0b000100 }, agenda := rest, resp := some { data := 0, error := false } }) ∧
  (∀ s : State, readReg s .cmd = 0) ∧ State.reset.ctl.cmd = 0

/-- 10_state.md R62, 70_reset_and_hazards.md R284, R288: a host write to an operand register between the CMD write and the execution changes nothing the command
computes: writing before or after the execution gives the same state. Committing a carrier frequency is shut out only for DSTART, whose publishes
read the live ones (R214). -/
def Obligations.OperandWritesDoNotReachAPendingCommand : Prop :=
  ∀ (i : Instr) (s t : State) (r : Reg) (v : Word), (r ∈ operandRegs ∨ (i ≠ .dstart ∧ (r = .hi .fdl ∨ r = .hi .ful))) →
    exec i s = .next t → exec i (writeReg s r v) = .next (writeReg t r v)

/-- 30_encoding.md R100: an accepted command completes, or a soft reset discards it, within as many steps as the agenda has events and one more. That
the engine follows an exhausted agenda is the model's choice (log 1). -/
def Obligations.PendingCommandEndsWithinTheAgenda : Prop :=
  ∀ s : State, s.ctl.busy = true → s.agendaInside = true →
    ∃ k t, k ≤ s.agenda.length + 1 ∧ Host.Core.run core k s = .next t ∧ t.ctl.busy = false

/-! ## The host bus and the registers -/

/-- 20_memory.md R81, R82, R89: a host write to BUF of 1, 2 or 4 bytes reads back as the low bytes of the value, and leaves every other byte and every
register alone. -/
def Obligations.BufWriteReadsBack : Prop :=
  ∀ (s : State) (a w : Nat) (v : Word), (w = 1 ∨ w = 2 ∨ w = 4) → a % w = 0 → a + w ≤ 65536 →
    ∃ t, hostStep (.write (0x10000 + a) w v) s = .next t ∧
      keepsOutside s t a w ∧ (∀ k < w, t.byteAt (a + k) = v.extractLsb' (8 * k) 8) ∧
      t.ctl = s.ctl ∧ t.golay = s.golay ∧ t.prbs0 = s.prbs0 ∧ t.prbs1 = s.prbs1 ∧ t.ver = s.ver ∧ t.dop = s.dop ∧
      t.wsh = s.wsh ∧ t.rsh = s.rsh ∧ t.history = s.history ∧ t.agenda = s.agenda ∧
      hostStep (.read (0x10000 + a) w) t =
        .next { t with resp := some { data := BitVec.ofNat 32 (v.toNat % 256 ^ w), error := false } }

/-- 20_memory.md R82, R87, 60_exceptions.md R245: a misaligned, narrow or overrunning access gets a bus-error response with data 0 and changes no state. That the answer to a
write carries data 0 too is the model's choice (log 9). -/
def Obligations.BusErrorChangesNoState : Prop :=
  ∀ (s : State) (rest : List Event) (o w : Nat) (v : Word),
    ((o < 0x10000 ∧ (w ≠ 4 ∨ o % 4 ≠ 0)) ∨
      (s.ctl.busy = false ∧ 0x10000 ≤ o ∧ o < 0x20000 ∧ (w = 1 ∨ w = 2 ∨ w = 4) ∧ ((o - 0x10000) % w ≠ 0 ∨ 65536 < o - 0x10000 + w))) →
    (s.agenda = .host (.read o w) :: rest → step s = .next { s with agenda := rest, resp := some { data := 0, error := true } }) ∧
    (s.agenda = .host (.write o w v) :: rest → step s = .next { s with agenda := rest, resp := some { data := 0, error := true } })

/-- 20_memory.md R83: a host BUF access has no step while BUSY = 1; it proceeds once the command has completed, and a register access is never held.
That the engine's step is the very next one is the model's choice (log 2). -/
def Obligations.BusyHoldsBufAccessesOnly : Prop :=
  ∀ (s : State) (a : HostAccess) (rest : List Event), s.ctl.busy = true → s.agenda = .host a :: rest →
    (a.offset < 0x10000 → step s = hostStep a { s with agenda := rest }) ∧
    (0x10000 ≤ a.offset → a.offset < 0x20000 →
      ∃ t, step s = .next t ∧ t.ctl.busy = false ∧ t.agenda = s.agenda ∧ t.resp = s.resp ∧ step t = hostStep a { t with agenda := rest })

/-- 20_memory.md R88: the 64-bit access protocol, whole: `_LO` writes only the shadow, `_HI` commits, `_LO` reads latch, `_HI` reads return the latch, and
the read-only registers ignore writes. -/
def Obligations.SixtyFourBitProtocol : Prop :=
  (∀ (s : State) (r q : Reg64) (v : Word), (writeReg s (.lo r) v).get64 q = s.get64 q) ∧
  (∀ (s : State) (r : Reg64) (a b : Word), r ∈ [Reg64.now, .fdl, .ful, .rr] →
    (writeReg (writeReg s (.lo r) a) (.hi r) b).get64 r = b ++ a) ∧
  (∀ (s : State) (v : Word), (writeReg s (.hi .now) v).dop.now = v ++ s.wsh.now ∧ (writeReg s (.hi .fdl) v).dop.fdl = v ++ s.wsh.fdl ∧
    (writeReg s (.hi .ful) v).dop.ful = v ++ s.wsh.ful ∧ (writeReg s (.hi .rr) v).dop.rr = v ++ s.wsh.rr) ∧
  (∀ (s : State) (r : Reg64) (v : Word), r ∈ [Reg64.dl, .ul, .pt, .lt, .lr] → writeReg s (.lo r) v = s ∧ writeReg s (.hi r) v = s) ∧
  (∀ (s : State) (r : Reg64), readReg s (.lo r) = (s.get64 r).extractLsb' 0 32 ∧
    (afterRead s (.lo r)).readShadow r = (s.get64 r).extractLsb' 32 32 ∧ (∀ q, (afterRead s (.lo r)).get64 q = s.get64 q) ∧
    readReg s (.hi r) = s.readShadow r ∧ afterRead s (.hi r) = s)

/-- 70_reset_and_hazards.md R285: ticks between the reads of `_LO` and `_HI`, with whatever they publish, do not tear the value read. -/
def Obligations.TicksDoNotTearA64BitRead : Prop :=
  ∀ (s : State) (r : Reg64) (k : Nat), readReg (tickStep^[k] (afterRead s (.lo r))) (.hi r) ++ readReg s (.lo r) = s.get64 r

/-- 10_state.md section 2: every register of the map stands at a word-aligned offset below 0x10000, and no two at one offset. -/
def Obligations.RegisterMapIsUnambiguous : Prop :=
  ∀ r : Reg, regAt (regOffset r) = some r ∧ regOffset r % 4 = 0 ∧ regOffset r < 0x10000

/-- 10_state.md R61: an unassigned offset reads 0, ignores writes and is no error. That the answer to a write carries data 0 is the model's choice
(log 9). -/
def Obligations.UnassignedOffsetReadsZeroIgnoresWrites : Prop :=
  ∀ (s : State) (rest : List Event) (o : Nat) (v : Word), o < 0x10000 → o % 4 = 0 → (∀ r, regOffset r ≠ o) →
    (s.agenda = .host (.read o 4) :: rest → step s = .next { s with agenda := rest, resp := some { data := 0, error := false } }) ∧
    (s.agenda = .host (.write o 4 v) :: rest → step s = .next { s with agenda := rest, resp := some { data := 0, error := false } })

/-- 10_state.md R36, 60_exceptions.md R248: a pending bit stays set until the host clears it by writing 1 to it or a soft reset clears it, and the host's write
clears exactly the bits it names. -/
def Obligations.PendingBitsStayUntilAcknowledged : Prop :=
  (∀ s t : State, step s = .next t →
    (∀ o w v rest, s.agenda = .host (.write o w v) :: rest → o ≠ 0x010 ∧ o ≠ 0x018) →
    ∀ b, s.ctl.irqPend.getLsbD b = true → t.ctl.irqPend.getLsbD b = true) ∧
  (∀ (s : State) (rest : List Event) (v : Word), s.agenda = .host (.write 0x010 4 v) :: rest →
    ∃ t, step s = .next t ∧ (∀ b < 6, t.ctl.irqPend.getLsbD b = (s.ctl.irqPend.getLsbD b && !v.getLsbD b)))

/-- 10_state.md R34, R69: each bit of STATUS is a view of other state. -/
def Obligations.StatusBitsAreViews : Prop :=
  ∀ s : State, (readReg s .status).getLsbD 0 = s.ctl.busy ∧ (readReg s .status).getLsbD 1 = s.dop.drun ∧
    (readReg s .status).getLsbD 2 = s.ver.vfinal ∧ (readReg s .status).getLsbD 3 = decide (s.prbs0.len ≠ 0) ∧
    (readReg s .status).getLsbD 4 = decide (s.prbs1.len ≠ 0) ∧ (readReg s .status).getLsbD 5 = decide (s.ver.expect ≠ 0) ∧
    (readReg s .status).getLsbD 6 = (List.range 6).any (fun b => s.ctl.irqPend.getLsbD b && s.ctl.irqEn.getLsbD b) ∧
    (∀ b, 7 ≤ b → (readReg s .status).getLsbD b = false) ∧ readReg State.reset .status = 0

/-- 70_reset_and_hazards.md R281, 10_state.md R38: a CTRL write with bit 0 set resets everything but BUF and the publishes already made, discarding a pending
command; with bit 0 clear it has no effect; it is accepted while busy; CTRL reads 0. That the agenda and the answer stay outside a soft
reset, and that the answer carries data 0, is the model's choice (log 9). -/
def Obligations.SoftResetKeepsOnlyBufAndHistory : Prop :=
  ∀ (s : State) (rest : List Event) (v : Word), s.agenda = .host (.write 0x018 4 v) :: rest →
    (v.getLsbD 0 = true → step s = .next { State.reset with
      buf := s.buf, history := s.history, agenda := rest, resp := some { data := 0, error := false } }) ∧
    (v.getLsbD 0 = false → step s = .next { s with agenda := rest, resp := some { data := 0, error := false } }) ∧
    readReg s .ctrl = 0

/-- 10_state.md R70: the state after power-on reset. -/
def Obligations.ResetLeavesTheTableValues : Prop :=
  readReg State.reset .id = 0x53430001 ∧ (∀ r : Reg, r ≠ .id → readReg State.reset r = 0) ∧
    State.reset.ctl.cmd = 0 ∧ State.reset.ctl.busy = false ∧ State.reset.ctl.snap =
      { arg0 := 0, arg1 := 0, arg2 := 0, arg3 := 0, gDin := 0, gCin := 0, gPre := 0, gPost := 0, dRr := 0, dFdl := 0, dFul := 0 } ∧
    (∀ i, State.reset.ver.count i = 0) ∧ State.reset.ver.vfinal = false ∧ State.reset.dop.drun = false ∧ State.reset.dop.phase = .reach ∧
    (∀ r : Reg64, State.reset.get64 r = 0 ∧ State.reset.readShadow r = 0) ∧
    State.reset.wsh = { now := 0, fdl := 0, ful := 0, rr := 0 } ∧ irqLevel State.reset = false ∧ State.reset.history = []

/-! ## PRBS -/

/-- 40_prbs.md R120, R121, R122: for each of the four polynomials the generated bits satisfy the recurrence over its taps with the elements before the start all
1, and register bit `k - 1` holds the element `k` bits back. -/
def Obligations.LfsrProducesTheRecurrence : Prop :=
  ∀ p ∈ [((0 : BitVec 2), 6, 7), (1, 14, 15), (2, 18, 23), (3, 28, 31)], ∀ t : Nat,
    prbsBit p.1 t = xor (seqBefore p.1 t p.2.1) (seqBefore p.1 t p.2.2) ∧
    (∀ k, 1 ≤ k → k ≤ p.2.2 → (lfsrReg p.1 t).getLsbD (k - 1) = seqBefore p.1 t k) ∧
    ∀ k, p.2.2 ≤ k → (lfsrReg p.1 t).getLsbD k = false

/-- 40_prbs.md R125 PCFG: a zero cycle length is INVALID_CONFIG; any other configures the unit with its cursor at 0 and its register at the all-ones seed of the
polynomial's degree, and changes nothing else. -/
def Obligations.PcfgConfiguresTheUnit : Prop :=
  ∀ (u sel : Nat) (s : State), u < 2 → sel < 4 →
    decode (BitVec.ofNat 32 (0x10000000 + u * 2 ^ 23 + sel)) = .ok (.pcfg u sel) ∧
    (s.a0 = 0 → exec (.pcfg u sel) s = .next (failed s 0x03)) ∧
    (s.a0 ≠ 0 → ∃ t, exec (.pcfg u sel) s = .next t ∧
      t.prbs u = { poly := BitVec.ofNat 2 sel, len := s.ctl.snap.arg0, cur := 0,
                   reg := [0x7F, 0x7FFF, 0x7FFFFF, 0x7FFFFFFF].getD sel 0 } ∧
      t.prbs (1 - u) = s.prbs (1 - u) ∧ t.ctl = doneCtl s.ctl ∧ t.golay = s.golay ∧ t.ver = s.ver ∧ t.dop = s.dop ∧ keepsRest s t ∧
      keepsBuf s t)

/-- 40_prbs.md R126 PGEN: the next `n` stream bits go to BUF at ARG0, the last byte padded with zeros; the cursor and register advance; RES0 is the byte count;
nothing else changes. An unconfigured unit and an out-of-bounds range raise NOT_CONFIGURED and BOUNDS. -/
def Obligations.PgenWritesTheNextStreamBits : Prop :=
  ∀ (u : Nat) (s : State), u < 2 →
    decode (BitVec.ofNat 32 (0x11000000 + u * 2 ^ 23)) = .ok (.pgen u) ∧
    ((s.prbs u).len = 0 → exec (.pgen u) s = .next (failed s 0x02)) ∧
    ((s.prbs u).len ≠ 0 → inBounds s.a0 ((s.a1 + 7) / 8) = false → exec (.pgen u) s = .next (failed s 0x05)) ∧
    ((s.prbs u).len ≠ 0 → inBounds s.a0 ((s.a1 + 7) / 8) = true → ∃ t, exec (.pgen u) s = .next t ∧
      (∀ i < s.a1, bitAt t s.a0 i = prbsBit (s.prbs u).poly (((s.prbs u).cur.toNat + i) % (s.prbs u).len.toNat)) ∧
      (∀ i, s.a1 ≤ i → i < 8 * ((s.a1 + 7) / 8) → bitAt t s.a0 i = false) ∧ keepsOutside s t s.a0 ((s.a1 + 7) / 8) ∧
      (t.prbs u).cur.toNat = ((s.prbs u).cur.toNat + s.a1) % (s.prbs u).len.toNat ∧
      (t.prbs u).reg = lfsrReg (s.prbs u).poly (t.prbs u).cur.toNat ∧ (t.prbs u).poly = (s.prbs u).poly ∧
      (t.prbs u).len = (s.prbs u).len ∧ t.prbs (1 - u) = s.prbs (1 - u) ∧
      t.ctl = { doneCtl s.ctl with res0 := BitVec.ofNat 32 ((s.a1 + 7) / 8) } ∧
      t.golay = s.golay ∧ t.ver = s.ver ∧ t.dop = s.dop ∧ keepsRest s t)

/-- 40_prbs.md R127, R130 PGENO: `n` stream bits from bit offset {ARG3, ARG2}, wrapping modulo the cycle length at every bit; the cursor does not move. -/
def Obligations.PgenoReadsAtTheOffsetModuloTheCycle : Prop :=
  ∀ (u : Nat) (s : State), u < 2 →
    decode (BitVec.ofNat 32 (0x12000000 + u * 2 ^ 23)) = .ok (.pgeno u) ∧
    ((s.prbs u).len = 0 → exec (.pgeno u) s = .next (failed s 0x02)) ∧
    ((s.prbs u).len ≠ 0 → inBounds s.a0 ((s.a1 + 7) / 8) = false → exec (.pgeno u) s = .next (failed s 0x05)) ∧
    ((s.prbs u).len ≠ 0 → inBounds s.a0 ((s.a1 + 7) / 8) = true → ∃ t, exec (.pgeno u) s = .next t ∧
      (∀ i < s.a1, bitAt t s.a0 i =
        prbsBit (s.prbs u).poly (((s.ctl.snap.arg3 ++ s.ctl.snap.arg2).toNat + i) % (s.prbs u).len.toNat)) ∧
      (∀ i, s.a1 ≤ i → i < 8 * ((s.a1 + 7) / 8) → bitAt t s.a0 i = false) ∧ keepsOutside s t s.a0 ((s.a1 + 7) / 8) ∧
      t.ctl = { doneCtl s.ctl with res0 := BitVec.ofNat 32 ((s.a1 + 7) / 8) } ∧ keepsUnits s t)

/-- 40_prbs.md R128 PSEQ: the little-endian packet index `k`, then the `L` stream bits from offset `k * L`; the cursor does not move. -/
def Obligations.PseqWritesOneSequencePacket : Prop :=
  ∀ (u : Nat) (s : State), u < 2 →
    decode (BitVec.ofNat 32 (0x13000000 + u * 2 ^ 23)) = .ok (.pseq u) ∧
    ((s.prbs u).len = 0 → exec (.pseq u) s = .next (failed s 0x02)) ∧
    ((s.prbs u).len ≠ 0 → (s.a2 = 0 ∨ s.a2 % 8 ≠ 0) → exec (.pseq u) s = .next (failed s 0x03)) ∧
    ((s.prbs u).len ≠ 0 → s.a2 ≠ 0 → s.a2 % 8 = 0 → inBounds s.a0 (4 + s.a2 / 8) = false →
      exec (.pseq u) s = .next (failed s 0x05)) ∧
    ((s.prbs u).len ≠ 0 → s.a2 ≠ 0 → s.a2 % 8 = 0 → inBounds s.a0 (4 + s.a2 / 8) = true → ∃ t, exec (.pseq u) s = .next t ∧
      (∀ k < 4, t.byteAt (s.a0 + k) = s.ctl.snap.arg1.extractLsb' (8 * k) 8) ∧
      (∀ i < s.a2, bitAt t (s.a0 + 4) i = prbsBit (s.prbs u).poly ((s.a1 * s.a2 + i) % (s.prbs u).len.toNat)) ∧
      keepsOutside s t s.a0 (4 + s.a2 / 8) ∧
      t.ctl = { doneCtl s.ctl with res0 := BitVec.ofNat 32 (4 + s.a2 / 8) } ∧ keepsUnits s t)

/-- 40_prbs.md R129: two PGEN commands of `n` and `m` bits write together the bits of one PGEN of `n + m` bits, and leave the same cursor and register, wherever
they write and whatever happens between them that leaves the unit alone. The byte buffers agree too when `n` is whole bytes. -/
def Obligations.PgenIsContinuous : Prop :=
  ∀ (u : Nat) (s t p v q w : State), u < 2 → (s.prbs u).len ≠ 0 → p.prbs u = t.prbs u → q.prbs u = s.prbs u → s.a1 + p.a1 = q.a1 →
    exec (.pgen u) s = .next t → codeOf t = 0 → exec (.pgen u) p = .next v → codeOf v = 0 → exec (.pgen u) q = .next w → codeOf w = 0 →
    (∀ i < s.a1, bitAt t s.a0 i = bitAt w q.a0 i) ∧ (∀ i < p.a1, bitAt v p.a0 i = bitAt w q.a0 (s.a1 + i)) ∧ v.prbs u = w.prbs u ∧
      (s.a1 % 8 = 0 → (∀ k < s.a1 / 8, t.byteAt (s.a0 + k) = w.byteAt (q.a0 + k)) ∧
        ∀ k < (p.a1 + 7) / 8, v.byteAt (p.a0 + k) = w.byteAt (q.a0 + s.a1 / 8 + k))

/-! ## Golay -/

/-- 41_golay.md R140: two different codewords differ in at least 8 bits. -/
def Obligations.GolayMinimumDistanceIsEight : Prop :=
  ∀ d e : BitVec 12, d ≠ e → 8 ≤ popcount (golayEnc d ^^^ golayEnc e)

/-- 41_golay.md R150: the laws of the codec: round trip, correction of every pattern of weight at most 3, detection of every pattern of weight 4, and a word
with 5 errors that decodes to another group unflagged. -/
def Obligations.GolayCodecLaws : Prop :=
  (∀ d : BitVec 12, golayDec (golayEnc d) = { data := d, nerr := 0, uncorr := false }) ∧
  (∀ (d : BitVec 12) (e : BitVec 24), popcount e ≤ 3 →
    golayDec (golayEnc d ^^^ e) = { data := d, nerr := popcount e, uncorr := false }) ∧
  (∀ (d : BitVec 12) (e : BitVec 24), popcount e = 4 → (golayDec (golayEnc d ^^^ e)).uncorr = true) ∧
  (∃ (d : BitVec 12) (e : BitVec 24), 5 ≤ popcount e ∧ golayEnc d ^^^ e = 0x00001F ∧
    golayDec (golayEnc d ^^^ e) = { data := 0x508, nerr := 3, uncorr := false } ∧ d ≠ 0x508)

/-- 41_golay.md R149: the syndrome is 0 exactly for codewords, the pattern `E(s)` is unique, and decoding by syndrome is the decoding of R143. -/
def Obligations.SyndromeDecodingIsNearestDecoding : Prop :=
  (∀ r : BitVec 24, golaySyn r = 0 ↔ ∃ d, r = golayEnc d) ∧
  (∀ (s : BitVec 12) (e f : BitVec 24), popcount e ≤ 3 → popcount f ≤ 3 → golaySyn e = s → golaySyn f = s → e = f) ∧
  (∀ r : BitVec 24, golayDecSyn r = golayDec r)

/-- 41_golay.md R141, R145 GENC: the codeword's high half is the data group, parity bit `p_j` is the parity of the rows' bits `p_j` that the data selects, and
nothing else changes. -/
def Obligations.GencWritesTheSystematicCodeword : Prop :=
  decode 0x20000000 = .ok .genc ∧ ∀ s : State, ∃ c : BitVec 24, exec .genc s = .next { s with ctl := doneCtl s.ctl, golay := { s.golay with cout := c } } ∧
    c.extractLsb' 12 12 = s.ctl.snap.gDin ∧
    ∀ j < 12, c.getLsbD (11 - j) = decide (((List.range 12).countP fun i =>
      s.ctl.snap.gDin.getLsbD (11 - i) && (Config.golayRows.getD i 0).getLsbD (11 - j)) % 2 = 1)

/-- 41_golay.md R143, R146 GDEC: a received word at distance at most 3 from a codeword decodes to its data group with that distance as NERR; any other gives its own
data half, flagged; both complete with OK, and nothing else changes. -/
def Obligations.GdecDecodesWithinDistanceThree : Prop :=
  decode 0x21000000 = .ok .gdec ∧ ∀ s : State,
    (∀ d : BitVec 12, popcount (s.ctl.snap.gCin ^^^ golayEnc d) ≤ 3 →
      exec .gdec s = .next { s with ctl := doneCtl s.ctl, golay := { s.golay with
        dout := d, dstat := BitVec.ofNat 32 (popcount (s.ctl.snap.gCin ^^^ golayEnc d)) } }) ∧
    ((∀ d : BitVec 12, 3 < popcount (s.ctl.snap.gCin ^^^ golayEnc d)) →
      exec .gdec s = .next { s with ctl := doneCtl s.ctl, golay := { s.golay with
        dout := s.ctl.snap.gCin.extractLsb' 12 12, dstat := 0x104 } })

/-- 41_golay.md R142, R147 GENCF: preamble, the codewords of the payload's 12-bit groups (three payload bytes give two), postamble; all computed from BUF as it
stood. FRAMING and BOUNDS as the rule says. -/
def Obligations.GencfFramesTheCodewords : Prop :=
  decode 0x22000000 = .ok .gencf ∧ ∀ s : State,
    (s.a1 % 3 ≠ 0 → exec .gencf s = .next (failed s 0x04)) ∧
    (s.a1 % 3 = 0 → (inBounds s.a0 s.a1 = false ∨ inBounds s.a2 (8 + 2 * s.a1) = false) → exec .gencf s = .next (failed s 0x05)) ∧
    (s.a1 % 3 = 0 → inBounds s.a0 s.a1 = true → inBounds s.a2 (8 + 2 * s.a1) = true → ∃ t, exec .gencf s = .next t ∧
      (∀ k < 4, t.byteAt (s.a2 + k) = s.ctl.snap.gPre.extractLsb' (8 * k) 8 ∧
        t.byteAt (s.a2 + 4 + 2 * s.a1 + k) = s.ctl.snap.gPost.extractLsb' (8 * k) 8) ∧
      (∀ m < s.a1 / 3, ∀ k < 3,
        t.byteAt (s.a2 + 4 + 6 * m + k) = (golayEnc (s.byteAt (s.a0 + 3 * m) ++
          (s.byteAt (s.a0 + 3 * m + 1)).extractLsb' 4 4)).extractLsb' (16 - 8 * k) 8 ∧
        t.byteAt (s.a2 + 4 + 6 * m + 3 + k) = (golayEnc ((s.byteAt (s.a0 + 3 * m + 1)).extractLsb' 0 4 ++
          s.byteAt (s.a0 + 3 * m + 2))).extractLsb' (16 - 8 * k) 8) ∧
      keepsOutside s t s.a2 (8 + 2 * s.a1) ∧ t.ctl = { doneCtl s.ctl with res0 := BitVec.ofNat 32 (8 + 2 * s.a1) } ∧
      t.golay = { s.golay with fblk := BitVec.ofNat 32 (2 * s.a1 / 3), func := 0, fcor := 0 } ∧ keepsAllButGolay s t)

/-- 41_golay.md R148 GDECF: the markers pass through, each 24-bit block gives its 12 decoded bits in order, the last byte is padded with zeros, and the counters
count uncorrectable blocks and corrected bits; all computed from BUF as it stood. -/
def Obligations.GdecfDecodesThePayloadRegion : Prop :=
  decode 0x23000000 = .ok .gdecf ∧ ∀ s : State,
    ((s.a1 < 8 ∨ (s.a1 - 8) % 3 ≠ 0) → exec .gdecf s = .next (failed s 0x04)) ∧
    (8 ≤ s.a1 → (s.a1 - 8) % 3 = 0 →
      (inBounds s.a0 s.a1 = false ∨ inBounds s.a2 (8 + (12 * ((s.a1 - 8) / 3) + 7) / 8) = false) →
      exec .gdecf s = .next (failed s 0x05)) ∧
    (8 ≤ s.a1 → (s.a1 - 8) % 3 = 0 → inBounds s.a0 s.a1 = true →
      inBounds s.a2 (8 + (12 * ((s.a1 - 8) / 3) + 7) / 8) = true →
      let n := (s.a1 - 8) / 3
      let pay := (12 * n + 7) / 8
      let block := fun j => golayDec (s.byteAt (s.a0 + 4 + 3 * j) ++ s.byteAt (s.a0 + 4 + 3 * j + 1) ++ s.byteAt (s.a0 + 4 + 3 * j + 2))
      ∃ t, exec .gdecf s = .next t ∧
        (∀ k < 4, t.byteAt (s.a2 + k) = s.byteAt (s.a0 + k) ∧ t.byteAt (s.a2 + 4 + pay + k) = s.byteAt (s.a0 + s.a1 - 4 + k)) ∧
        (∀ j < n, ∀ i < 12, bitAt t (s.a2 + 4) (12 * j + i) = (block j).data.getLsbD (11 - i)) ∧
        (∀ i, 12 * n ≤ i → i < 8 * pay → bitAt t (s.a2 + 4) i = false) ∧ keepsOutside s t s.a2 (8 + pay) ∧
        t.golay = { s.golay with
          fblk := BitVec.ofNat 32 n
          func := BitVec.ofNat 32 (∑ j ∈ Finset.range n, if (block j).uncorr then 1 else 0)
          fcor := BitVec.ofNat 32 (∑ j ∈ Finset.range n, if (block j).uncorr then 0 else (block j).nerr) } ∧
        t.ctl = { doneCtl s.ctl with res0 := BitVec.ofNat 32 (8 + pay), res1 := t.golay.func } ∧ keepsAllButGolay s t)

/-- 41_golay.md R147, R148, R150 (a): a payload encoded and framed by GENCF is given back by GDECF, with its markers, no block uncorrectable and no bit corrected. -/
def Obligations.FramedPayloadSurvivesEncodeThenDecode : Prop :=
  ∀ (s t v : State) (src m dst : Word), exec .gencf s = .next t → codeOf t = 0 → src.toNat = s.a2 → m.toNat = 8 + 2 * s.a1 →
    exec .gdecf { t with ctl := { t.ctl with snap := { t.ctl.snap with arg0 := src, arg1 := m, arg2 := dst } } } = .next v → codeOf v = 0 →
    (∀ k < s.a1, v.byteAt (dst.toNat + 4 + k) = s.byteAt (s.a0 + k)) ∧
      (∀ k < 4, v.byteAt (dst.toNat + k) = s.ctl.snap.gPre.extractLsb' (8 * k) 8 ∧
        v.byteAt (dst.toNat + 4 + s.a1 + k) = s.ctl.snap.gPost.extractLsb' (8 * k) 8) ∧
      v.golay.func = 0 ∧ v.golay.fcor = 0 ∧ v.ctl.res0.toNat = 8 + s.a1

/-! ## Verifier -/

/-- 42_verifier.md R170 VCFG: the configuration is taken and every count and statistic cleared, or INVALID_CONFIG. -/
def Obligations.VcfgConfiguresAndClears : Prop :=
  decode 0x30000000 = .ok .vcfg ∧ ∀ s : State,
    ((s.a0 = 0 ∨ 65536 < s.a0 ∨ s.a1 = 0 ∨ s.a1 % 8 ≠ 0) → exec .vcfg s = .next (failed s 0x03)) ∧
    (s.a0 ≠ 0 → s.a0 ≤ 65536 → s.a1 ≠ 0 → s.a1 % 8 = 0 → ∃ t, exec .vcfg s = .next t ∧
      t.ver.expect = s.ctl.snap.arg0 ∧ t.ver.plen = s.ctl.snap.arg1 ∧ t.ver.recv = 0 ∧ t.ver.wlen = 0 ∧ t.ver.unc = 0 ∧ t.ver.cor = 0 ∧
      (∀ i, t.ver.count i = 0) ∧ t.ver.vfinal = false ∧ t.ver.miss = 0 ∧ t.ver.ferq = 0 ∧ t.ver.dup = 0 ∧ t.ver.rcvd = 0 ∧
      t.ver.idx = s.ver.idx ∧ t.ctl = doneCtl s.ctl ∧ t.golay = s.golay ∧ t.prbs0 = s.prbs0 ∧ t.prbs1 = s.prbs1 ∧ t.dop = s.dop ∧
      keepsRest s t ∧ keepsBuf s t)

/-- 42_verifier.md R171 VSEEN: the received count goes up by one and stops at 2^32-1, or NOT_CONFIGURED. -/
def Obligations.VseenCountsOnePacket : Prop :=
  decode 0x31000000 = .ok .vseen ∧ ∀ s : State,
    (s.ver.expect = 0 → exec .vseen s = .next (failed s 0x02)) ∧
    (s.ver.expect ≠ 0 → ∃ c : Word, c.toNat = min (s.ver.recv.toNat + 1) (2 ^ 32 - 1) ∧
      exec .vseen s = .next { s with ctl := doneCtl s.ctl, ver := { s.ver with recv := c } })

/-- 42_verifier.md R172 VPKT: the verdict by steps (1)-(6), what it counts and what it reports. The configured packet length is whole bytes, as VCFG guarantees
(the invariant's clause). -/
def Obligations.VpktJudgesAndCountsThePacket : Prop :=
  decode 0x32000000 = .ok .vpkt ∧ ∀ s : State, s.ver.plen.toNat % 8 = 0 →
    let L := s.ver.plen.toNat
    let k := s.buf.read s.a0 4
    let length := s.a1 = L / 8 + 4
    let payload := ∀ i < L, bitAt s (s.a0 + 4) i = prbsBit s.prbs1.poly ((k * L + i) % s.prbs1.len.toNat)
    let outcome := fun (v : VerRegs) (verdict index : Nat) => exec .vpkt s = .next { s with
      ctl := { doneCtl s.ctl with res0 := BitVec.ofNat 32 verdict, res1 := BitVec.ofNat 32 index }, ver := v }
    ((s.ver.expect = 0 ∨ s.prbs1.len = 0) → exec .vpkt s = .next (failed s 0x02)) ∧
    (s.ver.expect ≠ 0 → s.prbs1.len ≠ 0 → inBounds s.a0 s.a1 = false → exec .vpkt s = .next (failed s 0x05)) ∧
    (s.ver.expect ≠ 0 → s.prbs1.len ≠ 0 → inBounds s.a0 s.a1 = true →
      (¬ length → outcome { s.ver with wlen := satInc s.ver.wlen } 1 0) ∧
      (length → ¬ payload → outcome { s.ver with unc := satInc s.ver.unc } 2 k) ∧
      (length → payload → s.ver.expect.toNat ≤ k → outcome { s.ver with unc := satInc s.ver.unc } 3 k) ∧
      (length → payload → k < s.ver.expect.toNat → ∃ v : VerRegs, outcome v 0 k ∧
        (∀ i, v.count i = if i = k then satInc (s.ver.count k) else s.ver.count i) ∧
        { v with vcnt := s.ver.vcnt } = { s.ver with cor := satInc s.ver.cor }))

/-- 42_verifier.md R173 VFIN: the first call computes the received indices, the missing ones, their fraction and the duplicates; later calls recompute nothing; every
call reports V_MISS and V_DUP. The configuration's bound is the one VCFG guarantees (the invariant's clause). -/
def Obligations.VfinComputesTheStatisticsOnce : Prop :=
  decode 0x33000000 = .ok .vfin ∧ ∀ s : State, s.ver.expect.toNat ≤ 65536 →
    let E := s.ver.expect.toNat
    let k := ((Finset.range E).filter fun i => 1 ≤ (s.ver.count i).toNat).card
    (E = 0 → exec .vfin s = .next (failed s 0x02)) ∧
    (E ≠ 0 → s.ver.vfinal = true →
      exec .vfin s = .next { s with ctl := { doneCtl s.ctl with res0 := s.ver.miss, res1 := s.ver.dup } }) ∧
    (E ≠ 0 → s.ver.vfinal = false → ∃ r m q d : Word, r.toNat = k ∧ m.toNat = E - k ∧ q.toNat = (E - k) * 65536 / E ∧
      d.toNat = min (∑ i ∈ Finset.range E, ((s.ver.count i).toNat - 1)) (2 ^ 32 - 1) ∧
      exec .vfin s = .next { s with
        ctl := { doneCtl s.ctl with res0 := m, res1 := d }
        ver := { s.ver with rcvd := r, miss := m, ferq := q, dup := d, vfinal := true } })

/-- 42_verifier.md R174 (b): the verifier's counters, counts and configuration do not depend on the order in which packets are delivered. The counts are listed in
canonical form, as every reached state has them (the invariant's clause). -/
def Obligations.DeliveryOrderDoesNotMatter : Prop :=
  ∀ (s : State) (ps qs : List (Word × Word)), keysRise s.ver.vcnt → ps.Perm qs → (deliver s ps).ver = (deliver s qs).ver

/-- 42_verifier.md R174 (a), R173: two successive VFIN write the same values, and no packet between them changes the statistics. -/
def Obligations.FinalizedStatisticsNeverChange : Prop :=
  ∀ (s t : State) (ps : List (Word × Word)), exec .vfin s = .next t → codeOf t = 0 →
    let v := deliver t ps
    ∃ w, exec .vfin v = .next w ∧ codeOf w = 0 ∧ w.ctl.res0 = t.ctl.res0 ∧ w.ctl.res1 = t.ctl.res1 ∧ w.ver.rcvd = t.ver.rcvd ∧
      w.ver.miss = t.ver.miss ∧ w.ver.ferq = t.ver.ferq ∧ w.ver.dup = t.ver.dup ∧ w.ver.vfinal = true

/-- 42_verifier.md R174 (c): before VFIN, delivering a packet of verdict 0 a second time raises the eventual V_DUP by exactly 1 and leaves V_MISS and V_FERQ
unchanged, while no count saturates. -/
def Obligations.SecondDeliveryIsOneDuplicate : Prop :=
  ∀ (s t u a b : State), s.ver.expect.toNat ≤ 65536 → s.ver.vfinal = false →
    (∑ i ∈ Finset.range s.ver.expect.toNat, (s.ver.count i).toNat) + 2 < 2 ^ 32 →
    exec .vpkt s = .next t → codeOf t = 0 → t.ctl.res0 = 0 → exec .vpkt t = .next u →
    exec .vfin t = .next a → exec .vfin u = .next b →
    b.ver.dup.toNat = a.ver.dup.toNat + 1 ∧ b.ver.miss = a.ver.miss ∧ b.ver.ferq = a.ver.ferq ∧ b.ver.rcvd = a.ver.rcvd

/-- 40_prbs.md R128, 42_verifier.md R172: the packet PSEQ makes for an expected index is the one VPKT accepts as correct, when both units have the same polynomial
and cycle length and the payload length is the verifier's. -/
def Obligations.VerifierAcceptsThePacketsPseqMakes : Prop :=
  ∀ (s t : State) (src n : Word), exec (.pseq 0) s = .next t → codeOf t = 0 →
    s.prbs1.poly = s.prbs0.poly → s.prbs1.len = s.prbs0.len → s.ver.plen = s.ctl.snap.arg2 → s.a1 < s.ver.expect.toNat →
    src.toNat = s.a0 → n.toNat = 4 + s.a2 / 8 →
    ∃ v, exec .vpkt (withPacket t (src, n)) = .next v ∧ codeOf v = 0 ∧ v.ctl.res0 = 0 ∧ v.ctl.res1 = s.ctl.snap.arg1 ∧
      v.ver.count s.a1 = satInc (s.ver.count s.a1) ∧ v.ver.cor = satInc s.ver.cor

/-! ## Doppler -/

/-- 43_doppler.md R192, R200 DINTERP: output record `i * cps + j` is the sub-sample `j` of pair `i`, the last record is the last input sample, RES0 is the record
count, and nothing else changes; all computed from BUF as it stood. The error conditions in the rule's order. -/
def Obligations.DinterpInterpolatesTheTable : Prop :=
  decode 0x40000000 = .ok .dinterp ∧ ∀ s : State,
    let N := s.a1
    let cps := s.a3
    let NO := if N = 0 then 0 else (N - 1) * cps + 1
    let x := sampleAt s.buf s.a0
    let rises := ∀ k, k + 1 < N → (x k).t < (x (k + 1)).t
    (cps = 0 → exec .dinterp s = .next (failed s 0x03)) ∧
    (cps ≠ 0 → (inBounds s.a0 (16 * N) = false ∨ inBounds s.a2 (16 * NO) = false) → exec .dinterp s = .next (failed s 0x05)) ∧
    (cps ≠ 0 → inBounds s.a0 (16 * N) = true → inBounds s.a2 (16 * NO) = true → ¬ rises → exec .dinterp s = .next (failed s 0x06)) ∧
    (cps ≠ 0 → inBounds s.a0 (16 * N) = true → inBounds s.a2 (16 * NO) = true → rises → ∃ t, exec .dinterp s = .next t ∧
      (∀ i j, i + 1 < N → j < cps → sampleAt t.buf s.a2 (i * cps + j) =
        { t := (x i).t + j * ((x (i + 1)).t - (x i).t) / cps, r := (x i).r + (j * ((x (i + 1)).r - (x i).r) : Int).tdiv cps }) ∧
      (1 ≤ N → sampleAt t.buf s.a2 ((N - 1) * cps) = x (N - 1)) ∧
      keepsOutside s t s.a2 (16 * NO) ∧ t.ctl = { doneCtl s.ctl with res0 := BitVec.ofNat 32 NO } ∧ keepsUnits s t)

/-- 43_doppler.md R193, R201 DSHIFT: the two shifts are the exact products over the constant, rounded toward zero and saturated at the s64 limits, and nothing else
changes. -/
def Obligations.DshiftComputesBothShifts : Prop :=
  decode 0x41000000 = .ok .dshift ∧ ∀ s : State,
    let q := fun (f : DWord) => ((f.toNat : Int) * s.ctl.snap.dRr.toInt).tdiv 299792458000
    ∃ dl ul : DWord, exec .dshift s = .next { s with ctl := doneCtl s.ctl, dop := { s.dop with dl := dl, ul := ul } } ∧
      dl.toInt = max (-(2 ^ 63)) (min (2 ^ 63 - 1) (q s.ctl.snap.dFdl)) ∧ ul.toInt = max (-(2 ^ 63)) (min (2 ^ 63 - 1) (q s.ctl.snap.dFul))

/-- 43_doppler.md R212: the model's evaluation, whose loop counts its turns, returns exactly what the rule's unbounded loop returns, wherever the sample index is
within the table (which R58 says it always is). -/
def Obligations.SchedulerEvaluationIsTheLoop : Prop :=
  ∀ s : State, s.dop.idx.toNat ≤ s.dop.cnt.toNat → ∀ t, Evaluates s t ↔ t = schedEval s

/-- 43_doppler.md R202 DSTART: the run is set up and evaluated in the same step, or the lowest of BOUNDS, SCHED_BUSY and EMPTY_PLAN. -/
def Obligations.DstartStartsAndEvaluatesTheRun : Prop :=
  decode 0x42000000 = .ok .dstart ∧ ∀ s : State,
    (inBounds s.a0 (16 * s.a1) = false → exec .dstart s = .next (failed s 0x05)) ∧
    (inBounds s.a0 (16 * s.a1) = true → s.dop.drun = true → exec .dstart s = .next (failed s 0x07)) ∧
    (inBounds s.a0 (16 * s.a1) = true → s.dop.drun = false → s.a1 = 0 → exec .dstart s = .next (failed s 0x08)) ∧
    (inBounds s.a0 (16 * s.a1) = true → s.dop.drun = false → s.a1 ≠ 0 → ∃ t,
      Evaluates { s with dop := { s.dop with base := s.ctl.snap.arg0, cnt := s.ctl.snap.arg1, idx := 0, phase := .reach, pubn := 0,
                                             skipn := 0, drun := true } } t ∧
      exec .dstart s = .next { t with ctl := doneCtl t.ctl } ∧
      t.dop.base = s.ctl.snap.arg0 ∧ t.dop.cnt = s.ctl.snap.arg1 ∧ t.ctl = { s.ctl with irqPend := t.ctl.irqPend } ∧
      t.golay = s.golay ∧ t.prbs0 = s.prbs0 ∧ t.prbs1 = s.prbs1 ∧ t.ver = s.ver ∧ t.wsh = s.wsh ∧ t.rsh = s.rsh ∧ t.agenda = s.agenda ∧
      t.resp = s.resp ∧ keepsBuf s t)

/-- 43_doppler.md R203 DSTOP: the run flag is cleared and the index reached goes to RES0, whether or not a run was active; nothing else changes. -/
def Obligations.DstopOnlyStopsTheRun : Prop :=
  decode 0x43000000 = .ok .dstop ∧ ∀ s : State, exec .dstop s = .next { s with ctl := { doneCtl s.ctl with res0 := s.dop.idx }, dop := { s.dop with drun := false } }

/-- 43_doppler.md R217: with no run active no step publishes or starts one, but the step that executes a DSTART: a tick or a host access while a DSTART is pending
does not. -/
def Obligations.NothingIsPublishedAfterTheStop : Prop :=
  ∀ s t : State, s.dop.drun = false → step s = .next t → ¬ (engineSteps s ∧ decode s.ctl.cmd = .ok .dstart) →
    t.history = s.history ∧ t.dop.drun = false

/-- 43_doppler.md R213: only the execution of a DSTART, a tick and a commit of D_NOW run the evaluation: every other command and every other register or BUF write
but a soft reset leaves the scheduler's registers and the publish history alone, and a commit of D_NOW evaluates at the committed time. That
the answer to that write carries data 0 is the model's choice (log 9). -/
def Obligations.OnlyThreeKindsOfStepRunTheScheduler : Prop :=
  (∀ (i : Instr) (s t : State), i ≠ .dstart → exec i s = .next t → schedView t.dop = schedView s.dop ∧ t.history = s.history) ∧
  (∀ (a : HostAccess) (s t : State), hostStep a s = .next t → (∀ w v, a ≠ .write 0x104 w v ∧ a ≠ .write 0x018 w v) →
    schedView t.dop = schedView s.dop ∧ t.history = s.history ∧ t.dop.drun = s.dop.drun ∧ t.dop.dl = s.dop.dl ∧ t.dop.ul = s.dop.ul) ∧
  (∀ (s : State) (v : Word), s.dop.idx.toNat ≤ s.dop.cnt.toNat →
    ∃ t, Evaluates { s with dop := { s.dop with now := v ++ s.wsh.now } } t ∧
      hostStep (.write 0x104 4 v) s = .next { t with resp := some { data := 0, error := false } })

/-- 43_doppler.md R211: a tick advances the time counter by TICK_NS modulo 2^64 and evaluates the scheduler, in one step; it changes no unit but the Doppler unit,
and no byte of BUF. That the tick is next is the agenda's to say (log 1). -/
def Obligations.TickAdvancesTimeAndEvaluates : Prop :=
  ∀ (s : State) (rest : List Event), s.agenda = .tick :: rest → s.dop.idx.toNat ≤ s.dop.cnt.toNat → ∃ t, step s = .next t ∧
    t.dop.now.toNat = (s.dop.now.toNat + 10) % 2 ^ 64 ∧
    Evaluates { s with agenda := rest, dop := { s.dop with now := BitVec.ofNat 64 (s.dop.now.toNat + 10) } } t ∧
    t.golay = s.golay ∧ t.prbs0 = s.prbs0 ∧ t.prbs1 = s.prbs1 ∧ t.ver = s.ver ∧ t.wsh = s.wsh ∧ t.rsh = s.rsh ∧ t.agenda = rest ∧
    t.resp = s.resp ∧ t.ctl = { s.ctl with irqPend := t.ctl.irqPend } ∧ keepsBuf s t

/-- 43_doppler.md R214-R216, R218 (a)-(c), 60_exceptions.md R248, 70_reset_and_hazards.md R288: what an evaluation publishes, skips and leaves. The samples from D_IDX on
are handled in table order, each published or skipped; those published carry the current time and the shifts of their own range rate with the live carriers,
none before its time; those skipped had passed; D_DL, D_UL and D_PT are those of the last publish; the counters and the pending bits say what
happened; and a run that goes on waits for the next sample, latched. -/
def Obligations.PublishesUseTheCurrentTimeAndLiveCarriers : Prop :=
  ∀ s : State, s.dop.idx.toNat ≤ s.dop.cnt.toNat →
    let t := schedEval s
    let handled := t.dop.idx.toNat - s.dop.idx.toNat
    s.dop.idx.toNat ≤ t.dop.idx.toNat ∧ t.dop.idx.toNat ≤ s.dop.cnt.toNat ∧ ∃ published : List Nat,
      published.Pairwise (· < ·) ∧ (∀ i ∈ published, s.dop.idx.toNat ≤ i ∧ i < t.dop.idx.toNat ∧ (dueSample s i).t ≤ s.dop.now.toNat) ∧
      (∀ i, s.dop.idx.toNat ≤ i → i < t.dop.idx.toNat → i ∉ published →
        (s.dop.phase = .reach ∨ i ≠ s.dop.idx.toNat) ∧ (dueSample s i).t < s.dop.now.toNat) ∧
      (∀ i ∈ published, (s.dop.phase = .reach ∨ i ≠ s.dop.idx.toNat) → (dueSample s i).t = s.dop.now.toNat) ∧
      t.history = s.history ++ published.map (publishOf s) ∧
      (∀ i, published.getLast? = some i → t.dop.dl.toInt = millihertz s.dop.fdl (dueSample s i).r ∧
        t.dop.ul.toInt = millihertz s.dop.ful (dueSample s i).r ∧ t.dop.pt.toNat = (dueSample s i).t) ∧
      (published = [] → t.dop.dl = s.dop.dl ∧ t.dop.ul = s.dop.ul ∧ t.dop.pt = s.dop.pt) ∧
      t.dop.pubn.toNat = min (s.dop.pubn.toNat + published.length) (2 ^ 32 - 1) ∧
      t.dop.skipn.toNat = min (s.dop.skipn.toNat + (handled - published.length)) (2 ^ 32 - 1) ∧ published.length ≤ handled ∧
      t.ctl.irqPend.getLsbD 3 = (s.ctl.irqPend.getLsbD 3 || decide (published ≠ [])) ∧
      t.ctl.irqPend.getLsbD 4 = (s.ctl.irqPend.getLsbD 4 || decide (published.length < handled)) ∧
      t.ctl.irqPend.getLsbD 5 = (s.ctl.irqPend.getLsbD 5 || (s.dop.drun && !t.dop.drun)) ∧
      (∀ b < 3, t.ctl.irqPend.getLsbD b = s.ctl.irqPend.getLsbD b) ∧
      (s.dop.drun = false → t = s) ∧ (s.dop.drun = true → t.dop.drun = false → t.dop.idx = s.dop.cnt) ∧
      (t.dop.drun = true → t.dop.phase = .wait ∧ t.dop.idx.toNat < s.dop.cnt.toNat ∧ t.dop.now < t.dop.lt ∧
        t.dop.lt.toNat = (dueSample s t.dop.idx.toNat).t ∧ t.dop.lr.toInt = (dueSample s t.dop.idx.toNat).r)

/-- 43_doppler.md R218 (d), R216: while a run waits, and the next sample's timestamp, if there is a next sample, is at least TICK_NS above the latched one's, a tick that
does not wrap skips nothing, publishes exactly when the latched time is reached, and then latches the next sample, or ends the run after the last. -/
def Obligations.WellSpacedSamplesAreNeverSkipped : Prop :=
  ∀ s : State, s.dop.drun = true → s.dop.phase = .wait → s.dop.now < s.dop.lt → s.dop.now.toNat + 10 < 2 ^ 64 →
    s.dop.idx.toNat < s.dop.cnt.toNat →
    (s.dop.idx.toNat + 1 < s.dop.cnt.toNat → s.dop.lt.toNat + 10 ≤ (sampleAt s.buf s.dop.base.toNat (s.dop.idx.toNat + 1)).t) →
    (tickStep s).dop.skipn = s.dop.skipn ∧
    (s.dop.lt.toNat ≤ s.dop.now.toNat + 10 →
      (tickStep s).history = s.history ++ [{ t := s.dop.lt, now := s.dop.now + 10, dl := millihertz s.dop.fdl s.dop.lr.toInt,
                                             ul := millihertz s.dop.ful s.dop.lr.toInt }] ∧
      (tickStep s).dop.idx.toNat = s.dop.idx.toNat + 1 ∧ (tickStep s).ctl.irqPend.getLsbD 3 = true ∧
      (s.dop.idx.toNat + 1 < s.dop.cnt.toNat → (tickStep s).dop.drun = true ∧ (tickStep s).dop.phase = .wait ∧
        (tickStep s).dop.lt.toNat = (sampleAt s.buf s.dop.base.toNat (s.dop.idx.toNat + 1)).t) ∧
      (s.dop.idx.toNat + 1 = s.dop.cnt.toNat → (tickStep s).dop.drun = false ∧ (tickStep s).ctl.irqPend.getLsbD 5 = true)) ∧
    (s.dop.now.toNat + 10 < s.dop.lt.toNat →
      (tickStep s).history = s.history ∧ (tickStep s).dop.idx = s.dop.idx ∧ (tickStep s).dop.drun = true)

/-! ## The whole machine -/

/-- The reset state satisfies the invariant of Safety.lean (10_state.md R70). -/
def Obligations.ResetSatisfiesTheInvariant : Prop := State.reset.Inv

/-- Every step keeps the invariant: memory stays canonical, RESULT and G_DSTAT keep their reserved bits, a PRBS unit's register goes with its cursor, the verifier's
counts and statistics stay consistent, the scheduler's index and table stay in range with every handled sample published or skipped, and no record was published
early. -/
def Obligations.EveryStepKeepsTheInvariant : Prop := ∀ s t : State, s.Inv → step s = .next t → t.Inv

/-- No command is ever refused, and a step faults exactly when it would let through a host access outside the block, where the platform decides what happens (R81).
That such an access is a fault is the model's choice (log 7). -/
def Obligations.OnlyAnAccessOutsideTheBlockStops : Prop :=
  (∀ s : State, s.agendaInside = true → ∃ t, step s = .next t ∧ t.agendaInside = true) ∧
  (∀ (s : State) (a : HostAccess) (rest : List Event), s.agenda = .host a :: rest → 0x20000 ≤ a.offset →
    step s = .fault (.outsideBlock a.offset)) ∧
  (∀ (s : State) (r : Refusal), step s ≠ .refused r)

/-- 20_memory.md R87, R96, 10_state.md R37, R39, R41, R43, R46, R51, 92_eei_decisions.md D37: the 32-bit registers over the bus. An aligned 4-byte read at a register's offset,
busy or not, answers what the register reads, offset by offset as the map lists them, and has that read's side effect alone; a write there does that register's write; the writable registers take
the bits that exist, change nothing else and read them back; the read-only ones ignore writes; and V_CNT reads the count that V_IDX selects. The data
a write is answered with is left free (log 9); that the access is next is the agenda's to say (log 1). -/
def Obligations.RegistersReadAndWriteOverTheBus : Prop :=
  (∀ (s : State) (rest : List Event) (r : Reg), s.agenda = .host (.read (regOffset r) 4) :: rest →
    step s = .next { afterRead { s with agenda := rest } r with resp := some { data := readReg s r, error := false } }) ∧
  (∀ (s : State) (rest : List Event) (r : Reg) (v : Word), s.agenda = .host (.write (regOffset r) 4 v) :: rest →
    ∃ d, step s = .next { writeReg { s with agenda := rest } r v with resp := some { data := d, error := false } }) ∧
  (∀ (s : State) (r : Reg), (∀ q, r ≠ .lo q) → afterRead s r = s) ∧
  (∀ (s : State) (rest : List Event) (c : Nat × Word), c ∈ mapReads s → s.agenda = .host (.read c.1 4) :: rest →
    ∃ t, step s = .next t ∧ t.resp = some { data := c.2, error := false }) ∧
  (∀ (s : State) (v : Word),
    writeReg s .arg0 v = { s with ctl := { s.ctl with arg0 := v } } ∧ readReg (writeReg s .arg0 v) .arg0 = v ∧
    writeReg s .arg1 v = { s with ctl := { s.ctl with arg1 := v } } ∧ readReg (writeReg s .arg1 v) .arg1 = v ∧
    writeReg s .arg2 v = { s with ctl := { s.ctl with arg2 := v } } ∧ readReg (writeReg s .arg2 v) .arg2 = v ∧
    writeReg s .arg3 v = { s with ctl := { s.ctl with arg3 := v } } ∧ readReg (writeReg s .arg3 v) .arg3 = v ∧
    (∃ b, writeReg s .irqEn v = { s with ctl := { s.ctl with irqEn := b } }) ∧ readReg (writeReg s .irqEn v) .irqEn = v &&& 0x0000003F ∧
    (∃ b, writeReg s .gDin v = { s with golay := { s.golay with din := b } }) ∧ readReg (writeReg s .gDin v) .gDin = v &&& 0x00000FFF ∧
    (∃ b, writeReg s .gCin v = { s with golay := { s.golay with cin := b } }) ∧ readReg (writeReg s .gCin v) .gCin = v &&& 0x00FFFFFF ∧
    writeReg s .gPre v = { s with golay := { s.golay with pre := v } } ∧ readReg (writeReg s .gPre v) .gPre = v ∧
    writeReg s .gPost v = { s with golay := { s.golay with post := v } } ∧ readReg (writeReg s .gPost v) .gPost = v ∧
    writeReg s .vIdx v = { s with ver := { s.ver with idx := v } } ∧ readReg (writeReg s .vIdx v) .vIdx = v ∧
    readReg (writeReg s .vIdx v) .vCnt = if v.toNat < s.ver.expect.toNat then s.ver.count v.toNat else 0) ∧
  (∀ (s : State) (v : Word), ∀ r ∈ readOnlyRegs, writeReg s r v = s) ∧
  State.reset.ver.idx = 0
end

