-- ==== Sys2Proof/Laws/Bits.lean ====
section
/-! SUPPORT. Bit streams: each bit of a packed byte, each bit of an unpacked stream, and the value of a stream (00_scope.md R18). -/

namespace Sys2Proof.Machine

theorem valOf_append_one (b : List Bool) (x : Bool) : valOf (b ++ [x]) = 2 * valOf b + x.toNat := by
  simp [valOf, List.foldl_append]

/-- R18: bit `i` of a stream's value is the stream's element `i` from its end. -/
theorem valOf_testBit (b : List Bool) (i : Nat) :
    (valOf b).testBit i = if i < b.length then b.getD (b.length - 1 - i) false else false := by
  induction b using List.reverseRecOn generalizing i with
  | nil => simp [valOf]
  | append_singleton b x ih =>
    rw [valOf_append_one]
    cases i with
    | zero => cases x <;> simp [Nat.testBit_zero, List.getD]
    | succ i =>
      have hhalf : (2 * valOf b + x.toNat) / 2 = valOf b := by cases x <;> simp <;> omega
      rw [Nat.testBit_succ, hhalf, ih]
      by_cases hi : i < b.length
      · rw [if_pos hi, if_pos (by simp; omega), List.getD_append _ _ _ _ (by simp; omega)]
        congr 1
        simp
        omega
      · rw [if_neg hi, if_neg (by simp; omega)]

theorem valOf_lt (b : List Bool) : valOf b < 2 ^ b.length := by
  refine Nat.lt_pow_two_of_testBit _ fun i hi => ?_
  rw [valOf_testBit, if_neg (by omega)]

@[simp] theorem bitsOf_length {w : Nat} (v : BitVec w) : (bitsOf v).length = w := by simp [bitsOf]

@[simp] theorem bitsOf_getD {w : Nat} (v : BitVec w) (i : Nat) :
    (bitsOf v).getD i false = if i < w then v.getLsbD (w - 1 - i) else false := by
  by_cases h : i < w <;> simp [bitsOf, List.getD, h]

/-- R18: `val` is the inverse of `bits_w`. -/
theorem valOf_bitsOf {w : Nat} (v : BitVec w) : valOf (bitsOf v) = v.toNat := by
  refine Nat.eq_of_testBit_eq fun i => ?_
  rw [valOf_testBit, bitsOf_length, bitsOf_getD, BitVec.testBit_toNat]
  by_cases h : i < w
  · rw [if_pos h, if_pos (by omega)]
    congr 1
    omega
  · rw [if_neg h, BitVec.getLsbD_of_ge _ _ (by omega)]

@[simp] theorem pack_length (b : List Bool) : (pack b).length = byteCount b.length := by simp [pack, byteCount]

/-- R18: bit `7 - m` of byte `k` of a packed stream is the stream's bit `8k + m`, 0 beyond its end. -/
theorem packByte_bit (b : List Bool) (k m : Nat) (h : m < 8) : (packByte b k).getLsbD (7 - m) = b.getD (8 * k + m) false := by
  unfold packByte
  rw [BitVec.getLsbD_ofNat, valOf_testBit]
  simp only [List.length_map, List.length_range]
  rw [if_pos (by omega), show 8 - 1 - (7 - m) = m by omega]
  simp [List.getD, h, show 7 - m < 8 by omega]

theorem pack_getD (b : List Bool) (k : Nat) (h : k < byteCount b.length) : (pack b).getD k 0 = packByte b k := by
  unfold byteCount at h
  simp [pack, List.getD, h]

/-- R18: bit `7 - i % 8` of byte `i / 8` of a packed stream is the stream's bit `i`; the pad bits of the last byte are 0. -/
theorem pack_bit (b : List Bool) (i : Nat) (h : i < 8 * byteCount b.length) :
    ((pack b).getD (i / 8) 0).getLsbD (7 - i % 8) = b.getD i false := by
  rw [pack_getD b _ (by omega), packByte_bit b _ _ (by omega)]
  congr 1
  omega

@[simp] theorem unpack_length (bs : List Byte) : (unpack bs).length = 8 * bs.length := by
  induction bs with
  | nil => rfl
  | cons b rest ih =>
    have : unpack (b :: rest) = bitsOf b ++ unpack rest := by simp [unpack]
    rw [this, List.length_append, ih, bitsOf_length, List.length_cons]
    omega

/-- R18: `unpack(B)_(8k+m) = B_k[7-m]`. -/
theorem unpack_bit (bs : List Byte) (i : Nat) : (unpack bs).getD i false = (bs.getD (i / 8) 0).getLsbD (7 - i % 8) := by
  induction bs generalizing i with
  | nil => simp [unpack]
  | cons b rest ih =>
    have hcons : unpack (b :: rest) = bitsOf b ++ unpack rest := by simp [unpack]
    rw [hcons]
    by_cases hi : i < 8
    · rw [List.getD_append _ _ _ _ (by simpa using hi), bitsOf_getD, if_pos hi, show i / 8 = 0 by omega, show i % 8 = i by omega]
      simp
    · rw [List.getD_append_right _ _ _ _ (by simpa using hi), bitsOf_length, ih, show i / 8 = (i - 8) / 8 + 1 by omega,
        show (i - 8) % 8 = i % 8 by omega, List.getD_cons_succ]

/-- R18: packing and unpacking whole bytes are inverse. -/
theorem pack_unpack (bs : List Byte) : pack (unpack bs) = bs := by
  refine List.ext_getElem (by simp [byteCount]; omega) fun k h1 h2 => ?_
  have hk : k < byteCount (unpack bs).length := by simpa using h1
  have hget := pack_getD (unpack bs) k hk
  have hleft : (pack (unpack bs))[k] = packByte (unpack bs) k := by
    rw [← hget]; simp only [List.getD, List.getElem?_eq_getElem h1, Option.getD_some]
  rw [hleft]
  refine BitVec.eq_of_getLsbD_eq fun j hj => ?_
  have hbit := packByte_bit (unpack bs) k (7 - j) (by omega)
  rw [show 7 - (7 - j) = j by omega] at hbit
  rw [hbit, unpack_bit, show (8 * k + (7 - j)) / 8 = k by omega, show 7 - (8 * k + (7 - j)) % 8 = j by omega]
  simp [List.getD, h2]

theorem subStream_length (b : List Bool) (i n : Nat) (h : i + n ≤ b.length) : (subStream b i n).length = n := by
  simp [subStream]; omega

theorem subStream_getD (b : List Bool) (i n k : Nat) (h : k < n) : (subStream b i n).getD k false = b.getD (i + k) false := by
  simp [subStream, List.getD, h]

/-- R22: the saturating increment, as a number. -/
theorem satInc_toNat (v : Word) : (satInc v).toNat = min (v.toNat + 1) (2 ^ 32 - 1) := by
  unfold satInc satu32
  rw [BitVec.toNat_ofNat, Nat.mod_eq_of_lt (by omega)]

/-- A saturating counter is not 0 after an event. -/
theorem satInc_ne_zero (v : Word) : satInc v ≠ 0 := by
  intro h
  have := satInc_toNat v
  rw [h] at this
  simp at this
  omega

/-- R22: `sat64` stays inside the s64 range. -/
theorem sat64_range (v : Int) : -(2 ^ 63) ≤ sat64 v ∧ sat64 v < 2 ^ 63 := by unfold sat64; omega

/-- R22: `enc64` read as two's complement gives back a value of the s64 range. -/
theorem enc64_toInt (v : Int) (h1 : -(2 ^ 63) ≤ v) (h2 : v < 2 ^ 63) : (enc64 v).toInt = v := by
  unfold enc64
  rw [BitVec.toInt_ofInt]
  exact Int.bmod_eq_of_le (by omega) (by omega)

end Sys2Proof.Machine
end

