-- ==== Sys2Proof/Laws/Sparse.lean ====
section
/-! SUPPORT. Finite maps as sorted lists: what a read gives after a write, and that a write keeps the keys rising. -/

namespace Sys2Proof.Machine

/-- Read after write, at the same key and at any other. -/
theorem cellGet_cellPut {α : Type} (m : List (Nat × α)) (k : Nat) (x : α) (j : Nat) :
    cellGet (cellPut m k x) j = if j = k then some x else cellGet m j := by
  induction m with
  | nil => simp [cellPut, cellGet]
  | cons c rest ih =>
    obtain ⟨a, v⟩ := c
    by_cases hlt : k < a
    · simp [cellPut, hlt, cellGet]
    · by_cases heq : k = a
      · subst heq
        by_cases hj : j = k <;> simp [cellPut, cellGet, hj]
      · by_cases hj : j = a
        · subst hj
          simp [cellPut, cellGet, hlt, heq, Ne.symm heq]
        · simp [cellPut, cellGet, hlt, heq, hj, ih]

/-- The entries after a write are the written one and old ones. -/
theorem mem_cellPut {α : Type} {m : List (Nat × α)} {k : Nat} {x : α} {c : Nat × α} (h : c ∈ cellPut m k x) :
    c = (k, x) ∨ c ∈ m := by
  induction m with
  | nil => simpa [cellPut] using h
  | cons d rest ih =>
    obtain ⟨a, v⟩ := d
    unfold cellPut at h
    split at h
    · simpa using h
    · split at h
      · rcases List.mem_cons.1 h with h | h
        · exact .inl h
        · exact .inr (List.mem_cons_of_mem _ h)
      · rcases List.mem_cons.1 h with h | h
        · exact .inr (h ▸ List.mem_cons_self)
        · exact (ih h).imp id (List.mem_cons_of_mem _)

/-- A write keeps the keys strictly rising. -/
theorem keysRise_cellPut {α : Type} {m : List (Nat × α)} (h : keysRise m) (k : Nat) (x : α) : keysRise (cellPut m k x) := by
  induction m with
  | nil => simp [cellPut]
  | cons c rest ih =>
    obtain ⟨a, v⟩ := c
    obtain ⟨hhead, htail⟩ := List.pairwise_cons.1 h
    unfold cellPut
    split
    · rename_i hlt
      refine List.pairwise_cons.2 ⟨fun d hd => ?_, h⟩
      rcases List.mem_cons.1 hd with rfl | hd
      · exact hlt
      · exact lt_trans hlt (hhead d hd)
    · split
      · rename_i heq
        exact List.pairwise_cons.2 ⟨fun d hd => heq ▸ hhead d hd, htail⟩
      · rename_i hlt heq
        refine List.pairwise_cons.2 ⟨fun d hd => ?_, ih htail⟩
        rcases mem_cellPut hd with rfl | hd
        · simp only; omega
        · exact hhead d hd

end Sys2Proof.Machine
end

