-- ==== Sys2Proof/Laws/State.lean ====
section
/-! SUPPORT. One lemma per field per named update of State, each true by unfolding the update once, so that no later proof unfolds a record update. -/

namespace Sys2Proof.Machine

/-! ### Completion (R241) -/

@[simp] theorem State.complete_ctl_cmd (s : State) (e : Option CmdError) : (s.complete e).ctl.cmd = s.ctl.cmd := rfl
@[simp] theorem State.complete_ctl_busy (s : State) (e : Option CmdError) : (s.complete e).ctl.busy = false := rfl
@[simp] theorem State.complete_ctl_snap (s : State) (e : Option CmdError) : (s.complete e).ctl.snap = s.ctl.snap := rfl
@[simp] theorem State.complete_ctl_result (s : State) (e : Option CmdError) : (s.complete e).ctl.result = resultWord s.ctl.cmd e := rfl
@[simp] theorem State.complete_ctl_irqPend (s : State) (e : Option CmdError) : (s.complete e).ctl.irqPend = s.ctl.irqPend ||| donePend e := rfl
@[simp] theorem State.complete_ctl_irqEn (s : State) (e : Option CmdError) : (s.complete e).ctl.irqEn = s.ctl.irqEn := rfl
@[simp] theorem State.complete_ctl_arg0 (s : State) (e : Option CmdError) : (s.complete e).ctl.arg0 = s.ctl.arg0 := rfl
@[simp] theorem State.complete_ctl_arg1 (s : State) (e : Option CmdError) : (s.complete e).ctl.arg1 = s.ctl.arg1 := rfl
@[simp] theorem State.complete_ctl_arg2 (s : State) (e : Option CmdError) : (s.complete e).ctl.arg2 = s.ctl.arg2 := rfl
@[simp] theorem State.complete_ctl_arg3 (s : State) (e : Option CmdError) : (s.complete e).ctl.arg3 = s.ctl.arg3 := rfl
@[simp] theorem State.complete_ctl_res0 (s : State) (e : Option CmdError) : (s.complete e).ctl.res0 = s.ctl.res0 := rfl
@[simp] theorem State.complete_ctl_res1 (s : State) (e : Option CmdError) : (s.complete e).ctl.res1 = s.ctl.res1 := rfl
@[simp] theorem State.complete_golay (s : State) (e : Option CmdError) : (s.complete e).golay = s.golay := rfl
@[simp] theorem State.complete_prbs0 (s : State) (e : Option CmdError) : (s.complete e).prbs0 = s.prbs0 := rfl
@[simp] theorem State.complete_prbs1 (s : State) (e : Option CmdError) : (s.complete e).prbs1 = s.prbs1 := rfl
@[simp] theorem State.complete_ver (s : State) (e : Option CmdError) : (s.complete e).ver = s.ver := rfl
@[simp] theorem State.complete_dop (s : State) (e : Option CmdError) : (s.complete e).dop = s.dop := rfl
@[simp] theorem State.complete_wsh (s : State) (e : Option CmdError) : (s.complete e).wsh = s.wsh := rfl
@[simp] theorem State.complete_rsh (s : State) (e : Option CmdError) : (s.complete e).rsh = s.rsh := rfl
@[simp] theorem State.complete_buf (s : State) (e : Option CmdError) : (s.complete e).buf = s.buf := rfl
@[simp] theorem State.complete_history (s : State) (e : Option CmdError) : (s.complete e).history = s.history := rfl
@[simp] theorem State.complete_agenda (s : State) (e : Option CmdError) : (s.complete e).agenda = s.agenda := rfl
@[simp] theorem State.complete_resp (s : State) (e : Option CmdError) : (s.complete e).resp = s.resp := rfl

/-! ### Pending bits (R248) -/

@[simp] theorem State.pend_ctl_cmd (s : State) (b : BitVec 6) : (s.pend b).ctl.cmd = s.ctl.cmd := rfl
@[simp] theorem State.pend_ctl_busy (s : State) (b : BitVec 6) : (s.pend b).ctl.busy = s.ctl.busy := rfl
@[simp] theorem State.pend_ctl_snap (s : State) (b : BitVec 6) : (s.pend b).ctl.snap = s.ctl.snap := rfl
@[simp] theorem State.pend_ctl_result (s : State) (b : BitVec 6) : (s.pend b).ctl.result = s.ctl.result := rfl
@[simp] theorem State.pend_ctl_irqPend (s : State) (b : BitVec 6) : (s.pend b).ctl.irqPend = s.ctl.irqPend ||| b := rfl
@[simp] theorem State.pend_ctl_irqEn (s : State) (b : BitVec 6) : (s.pend b).ctl.irqEn = s.ctl.irqEn := rfl
@[simp] theorem State.pend_ctl_arg0 (s : State) (b : BitVec 6) : (s.pend b).ctl.arg0 = s.ctl.arg0 := rfl
@[simp] theorem State.pend_ctl_arg1 (s : State) (b : BitVec 6) : (s.pend b).ctl.arg1 = s.ctl.arg1 := rfl
@[simp] theorem State.pend_ctl_arg2 (s : State) (b : BitVec 6) : (s.pend b).ctl.arg2 = s.ctl.arg2 := rfl
@[simp] theorem State.pend_ctl_arg3 (s : State) (b : BitVec 6) : (s.pend b).ctl.arg3 = s.ctl.arg3 := rfl
@[simp] theorem State.pend_ctl_res0 (s : State) (b : BitVec 6) : (s.pend b).ctl.res0 = s.ctl.res0 := rfl
@[simp] theorem State.pend_ctl_res1 (s : State) (b : BitVec 6) : (s.pend b).ctl.res1 = s.ctl.res1 := rfl
@[simp] theorem State.pend_golay (s : State) (b : BitVec 6) : (s.pend b).golay = s.golay := rfl
@[simp] theorem State.pend_prbs0 (s : State) (b : BitVec 6) : (s.pend b).prbs0 = s.prbs0 := rfl
@[simp] theorem State.pend_prbs1 (s : State) (b : BitVec 6) : (s.pend b).prbs1 = s.prbs1 := rfl
@[simp] theorem State.pend_ver (s : State) (b : BitVec 6) : (s.pend b).ver = s.ver := rfl
@[simp] theorem State.pend_dop (s : State) (b : BitVec 6) : (s.pend b).dop = s.dop := rfl
@[simp] theorem State.pend_wsh (s : State) (b : BitVec 6) : (s.pend b).wsh = s.wsh := rfl
@[simp] theorem State.pend_rsh (s : State) (b : BitVec 6) : (s.pend b).rsh = s.rsh := rfl
@[simp] theorem State.pend_buf (s : State) (b : BitVec 6) : (s.pend b).buf = s.buf := rfl
@[simp] theorem State.pend_history (s : State) (b : BitVec 6) : (s.pend b).history = s.history := rfl
@[simp] theorem State.pend_agenda (s : State) (b : BitVec 6) : (s.pend b).agenda = s.agenda := rfl
@[simp] theorem State.pend_resp (s : State) (b : BitVec 6) : (s.pend b).resp = s.resp := rfl

/-! ### Acknowledge (R36) -/

@[simp] theorem State.ackPend_ctl_cmd (s : State) (v : Word) : (s.ackPend v).ctl.cmd = s.ctl.cmd := rfl
@[simp] theorem State.ackPend_ctl_busy (s : State) (v : Word) : (s.ackPend v).ctl.busy = s.ctl.busy := rfl
@[simp] theorem State.ackPend_ctl_snap (s : State) (v : Word) : (s.ackPend v).ctl.snap = s.ctl.snap := rfl
@[simp] theorem State.ackPend_ctl_result (s : State) (v : Word) : (s.ackPend v).ctl.result = s.ctl.result := rfl
@[simp] theorem State.ackPend_ctl_irqPend (s : State) (v : Word) : (s.ackPend v).ctl.irqPend = s.ctl.irqPend &&& ~~~(v.extractLsb' 0 6) := rfl
@[simp] theorem State.ackPend_ctl_irqEn (s : State) (v : Word) : (s.ackPend v).ctl.irqEn = s.ctl.irqEn := rfl
@[simp] theorem State.ackPend_ctl_arg0 (s : State) (v : Word) : (s.ackPend v).ctl.arg0 = s.ctl.arg0 := rfl
@[simp] theorem State.ackPend_ctl_arg1 (s : State) (v : Word) : (s.ackPend v).ctl.arg1 = s.ctl.arg1 := rfl
@[simp] theorem State.ackPend_ctl_arg2 (s : State) (v : Word) : (s.ackPend v).ctl.arg2 = s.ctl.arg2 := rfl
@[simp] theorem State.ackPend_ctl_arg3 (s : State) (v : Word) : (s.ackPend v).ctl.arg3 = s.ctl.arg3 := rfl
@[simp] theorem State.ackPend_ctl_res0 (s : State) (v : Word) : (s.ackPend v).ctl.res0 = s.ctl.res0 := rfl
@[simp] theorem State.ackPend_ctl_res1 (s : State) (v : Word) : (s.ackPend v).ctl.res1 = s.ctl.res1 := rfl
@[simp] theorem State.ackPend_golay (s : State) (v : Word) : (s.ackPend v).golay = s.golay := rfl
@[simp] theorem State.ackPend_prbs0 (s : State) (v : Word) : (s.ackPend v).prbs0 = s.prbs0 := rfl
@[simp] theorem State.ackPend_prbs1 (s : State) (v : Word) : (s.ackPend v).prbs1 = s.prbs1 := rfl
@[simp] theorem State.ackPend_ver (s : State) (v : Word) : (s.ackPend v).ver = s.ver := rfl
@[simp] theorem State.ackPend_dop (s : State) (v : Word) : (s.ackPend v).dop = s.dop := rfl
@[simp] theorem State.ackPend_wsh (s : State) (v : Word) : (s.ackPend v).wsh = s.wsh := rfl
@[simp] theorem State.ackPend_rsh (s : State) (v : Word) : (s.ackPend v).rsh = s.rsh := rfl
@[simp] theorem State.ackPend_buf (s : State) (v : Word) : (s.ackPend v).buf = s.buf := rfl
@[simp] theorem State.ackPend_history (s : State) (v : Word) : (s.ackPend v).history = s.history := rfl
@[simp] theorem State.ackPend_agenda (s : State) (v : Word) : (s.ackPend v).agenda = s.agenda := rfl
@[simp] theorem State.ackPend_resp (s : State) (v : Word) : (s.ackPend v).resp = s.resp := rfl

/-! ### Accepting a command (R33) -/

@[simp] theorem State.accept_ctl_cmd (s : State) (w : Word) : (s.accept w).ctl.cmd = w := rfl
@[simp] theorem State.accept_ctl_busy (s : State) (w : Word) : (s.accept w).ctl.busy = true := rfl
@[simp] theorem State.accept_ctl_snap (s : State) (w : Word) : (s.accept w).ctl.snap = s.capture := rfl
@[simp] theorem State.accept_ctl_result (s : State) (w : Word) : (s.accept w).ctl.result = s.ctl.result := rfl
@[simp] theorem State.accept_ctl_irqPend (s : State) (w : Word) : (s.accept w).ctl.irqPend = s.ctl.irqPend := rfl
@[simp] theorem State.accept_ctl_irqEn (s : State) (w : Word) : (s.accept w).ctl.irqEn = s.ctl.irqEn := rfl
@[simp] theorem State.accept_ctl_arg0 (s : State) (w : Word) : (s.accept w).ctl.arg0 = s.ctl.arg0 := rfl
@[simp] theorem State.accept_ctl_arg1 (s : State) (w : Word) : (s.accept w).ctl.arg1 = s.ctl.arg1 := rfl
@[simp] theorem State.accept_ctl_arg2 (s : State) (w : Word) : (s.accept w).ctl.arg2 = s.ctl.arg2 := rfl
@[simp] theorem State.accept_ctl_arg3 (s : State) (w : Word) : (s.accept w).ctl.arg3 = s.ctl.arg3 := rfl
@[simp] theorem State.accept_ctl_res0 (s : State) (w : Word) : (s.accept w).ctl.res0 = s.ctl.res0 := rfl
@[simp] theorem State.accept_ctl_res1 (s : State) (w : Word) : (s.accept w).ctl.res1 = s.ctl.res1 := rfl
@[simp] theorem State.accept_golay (s : State) (w : Word) : (s.accept w).golay = s.golay := rfl
@[simp] theorem State.accept_prbs0 (s : State) (w : Word) : (s.accept w).prbs0 = s.prbs0 := rfl
@[simp] theorem State.accept_prbs1 (s : State) (w : Word) : (s.accept w).prbs1 = s.prbs1 := rfl
@[simp] theorem State.accept_ver (s : State) (w : Word) : (s.accept w).ver = s.ver := rfl
@[simp] theorem State.accept_dop (s : State) (w : Word) : (s.accept w).dop = s.dop := rfl
@[simp] theorem State.accept_wsh (s : State) (w : Word) : (s.accept w).wsh = s.wsh := rfl
@[simp] theorem State.accept_rsh (s : State) (w : Word) : (s.accept w).rsh = s.rsh := rfl
@[simp] theorem State.accept_buf (s : State) (w : Word) : (s.accept w).buf = s.buf := rfl
@[simp] theorem State.accept_history (s : State) (w : Word) : (s.accept w).history = s.history := rfl
@[simp] theorem State.accept_agenda (s : State) (w : Word) : (s.accept w).agenda = s.agenda := rfl
@[simp] theorem State.accept_resp (s : State) (w : Word) : (s.accept w).resp = s.resp := rfl

/-! ### RES0 (R40) -/

@[simp] theorem State.setRes0_ctl_cmd (s : State) (v : Nat) : (s.setRes0 v).ctl.cmd = s.ctl.cmd := rfl
@[simp] theorem State.setRes0_ctl_busy (s : State) (v : Nat) : (s.setRes0 v).ctl.busy = s.ctl.busy := rfl
@[simp] theorem State.setRes0_ctl_snap (s : State) (v : Nat) : (s.setRes0 v).ctl.snap = s.ctl.snap := rfl
@[simp] theorem State.setRes0_ctl_result (s : State) (v : Nat) : (s.setRes0 v).ctl.result = s.ctl.result := rfl
@[simp] theorem State.setRes0_ctl_irqPend (s : State) (v : Nat) : (s.setRes0 v).ctl.irqPend = s.ctl.irqPend := rfl
@[simp] theorem State.setRes0_ctl_irqEn (s : State) (v : Nat) : (s.setRes0 v).ctl.irqEn = s.ctl.irqEn := rfl
@[simp] theorem State.setRes0_ctl_arg0 (s : State) (v : Nat) : (s.setRes0 v).ctl.arg0 = s.ctl.arg0 := rfl
@[simp] theorem State.setRes0_ctl_arg1 (s : State) (v : Nat) : (s.setRes0 v).ctl.arg1 = s.ctl.arg1 := rfl
@[simp] theorem State.setRes0_ctl_arg2 (s : State) (v : Nat) : (s.setRes0 v).ctl.arg2 = s.ctl.arg2 := rfl
@[simp] theorem State.setRes0_ctl_arg3 (s : State) (v : Nat) : (s.setRes0 v).ctl.arg3 = s.ctl.arg3 := rfl
@[simp] theorem State.setRes0_ctl_res0 (s : State) (v : Nat) : (s.setRes0 v).ctl.res0 = BitVec.ofNat 32 v := rfl
@[simp] theorem State.setRes0_ctl_res1 (s : State) (v : Nat) : (s.setRes0 v).ctl.res1 = s.ctl.res1 := rfl
@[simp] theorem State.setRes0_golay (s : State) (v : Nat) : (s.setRes0 v).golay = s.golay := rfl
@[simp] theorem State.setRes0_prbs0 (s : State) (v : Nat) : (s.setRes0 v).prbs0 = s.prbs0 := rfl
@[simp] theorem State.setRes0_prbs1 (s : State) (v : Nat) : (s.setRes0 v).prbs1 = s.prbs1 := rfl
@[simp] theorem State.setRes0_ver (s : State) (v : Nat) : (s.setRes0 v).ver = s.ver := rfl
@[simp] theorem State.setRes0_dop (s : State) (v : Nat) : (s.setRes0 v).dop = s.dop := rfl
@[simp] theorem State.setRes0_wsh (s : State) (v : Nat) : (s.setRes0 v).wsh = s.wsh := rfl
@[simp] theorem State.setRes0_rsh (s : State) (v : Nat) : (s.setRes0 v).rsh = s.rsh := rfl
@[simp] theorem State.setRes0_buf (s : State) (v : Nat) : (s.setRes0 v).buf = s.buf := rfl
@[simp] theorem State.setRes0_history (s : State) (v : Nat) : (s.setRes0 v).history = s.history := rfl
@[simp] theorem State.setRes0_agenda (s : State) (v : Nat) : (s.setRes0 v).agenda = s.agenda := rfl
@[simp] theorem State.setRes0_resp (s : State) (v : Nat) : (s.setRes0 v).resp = s.resp := rfl

/-! ### RES1 (R40) -/

@[simp] theorem State.setRes1_ctl_cmd (s : State) (v : Nat) : (s.setRes1 v).ctl.cmd = s.ctl.cmd := rfl
@[simp] theorem State.setRes1_ctl_busy (s : State) (v : Nat) : (s.setRes1 v).ctl.busy = s.ctl.busy := rfl
@[simp] theorem State.setRes1_ctl_snap (s : State) (v : Nat) : (s.setRes1 v).ctl.snap = s.ctl.snap := rfl
@[simp] theorem State.setRes1_ctl_result (s : State) (v : Nat) : (s.setRes1 v).ctl.result = s.ctl.result := rfl
@[simp] theorem State.setRes1_ctl_irqPend (s : State) (v : Nat) : (s.setRes1 v).ctl.irqPend = s.ctl.irqPend := rfl
@[simp] theorem State.setRes1_ctl_irqEn (s : State) (v : Nat) : (s.setRes1 v).ctl.irqEn = s.ctl.irqEn := rfl
@[simp] theorem State.setRes1_ctl_arg0 (s : State) (v : Nat) : (s.setRes1 v).ctl.arg0 = s.ctl.arg0 := rfl
@[simp] theorem State.setRes1_ctl_arg1 (s : State) (v : Nat) : (s.setRes1 v).ctl.arg1 = s.ctl.arg1 := rfl
@[simp] theorem State.setRes1_ctl_arg2 (s : State) (v : Nat) : (s.setRes1 v).ctl.arg2 = s.ctl.arg2 := rfl
@[simp] theorem State.setRes1_ctl_arg3 (s : State) (v : Nat) : (s.setRes1 v).ctl.arg3 = s.ctl.arg3 := rfl
@[simp] theorem State.setRes1_ctl_res0 (s : State) (v : Nat) : (s.setRes1 v).ctl.res0 = s.ctl.res0 := rfl
@[simp] theorem State.setRes1_ctl_res1 (s : State) (v : Nat) : (s.setRes1 v).ctl.res1 = BitVec.ofNat 32 v := rfl
@[simp] theorem State.setRes1_golay (s : State) (v : Nat) : (s.setRes1 v).golay = s.golay := rfl
@[simp] theorem State.setRes1_prbs0 (s : State) (v : Nat) : (s.setRes1 v).prbs0 = s.prbs0 := rfl
@[simp] theorem State.setRes1_prbs1 (s : State) (v : Nat) : (s.setRes1 v).prbs1 = s.prbs1 := rfl
@[simp] theorem State.setRes1_ver (s : State) (v : Nat) : (s.setRes1 v).ver = s.ver := rfl
@[simp] theorem State.setRes1_dop (s : State) (v : Nat) : (s.setRes1 v).dop = s.dop := rfl
@[simp] theorem State.setRes1_wsh (s : State) (v : Nat) : (s.setRes1 v).wsh = s.wsh := rfl
@[simp] theorem State.setRes1_rsh (s : State) (v : Nat) : (s.setRes1 v).rsh = s.rsh := rfl
@[simp] theorem State.setRes1_buf (s : State) (v : Nat) : (s.setRes1 v).buf = s.buf := rfl
@[simp] theorem State.setRes1_history (s : State) (v : Nat) : (s.setRes1 v).history = s.history := rfl
@[simp] theorem State.setRes1_agenda (s : State) (v : Nat) : (s.setRes1 v).agenda = s.agenda := rfl
@[simp] theorem State.setRes1_resp (s : State) (v : Nat) : (s.setRes1 v).resp = s.resp := rfl

/-! ### Storing bytes (R20) -/

@[simp] theorem State.store_ctl (s : State) (a : Nat) (bs : List Byte) : (s.store a bs).ctl = s.ctl := rfl
@[simp] theorem State.store_golay (s : State) (a : Nat) (bs : List Byte) : (s.store a bs).golay = s.golay := rfl
@[simp] theorem State.store_prbs0 (s : State) (a : Nat) (bs : List Byte) : (s.store a bs).prbs0 = s.prbs0 := rfl
@[simp] theorem State.store_prbs1 (s : State) (a : Nat) (bs : List Byte) : (s.store a bs).prbs1 = s.prbs1 := rfl
@[simp] theorem State.store_ver (s : State) (a : Nat) (bs : List Byte) : (s.store a bs).ver = s.ver := rfl
@[simp] theorem State.store_dop (s : State) (a : Nat) (bs : List Byte) : (s.store a bs).dop = s.dop := rfl
@[simp] theorem State.store_wsh (s : State) (a : Nat) (bs : List Byte) : (s.store a bs).wsh = s.wsh := rfl
@[simp] theorem State.store_rsh (s : State) (a : Nat) (bs : List Byte) : (s.store a bs).rsh = s.rsh := rfl
@[simp] theorem State.store_buf (s : State) (a : Nat) (bs : List Byte) : (s.store a bs).buf = s.buf.writeBytes a bs := rfl
@[simp] theorem State.store_history (s : State) (a : Nat) (bs : List Byte) : (s.store a bs).history = s.history := rfl
@[simp] theorem State.store_agenda (s : State) (a : Nat) (bs : List Byte) : (s.store a bs).agenda = s.agenda := rfl
@[simp] theorem State.store_resp (s : State) (a : Nat) (bs : List Byte) : (s.store a bs).resp = s.resp := rfl

/-! ### Frame counters (R47) -/

@[simp] theorem State.setFrame_ctl (s : State) (n u c : Nat) : (s.setFrame n u c).ctl = s.ctl := rfl
@[simp] theorem State.setFrame_golay_din (s : State) (n u c : Nat) : (s.setFrame n u c).golay.din = s.golay.din := rfl
@[simp] theorem State.setFrame_golay_cout (s : State) (n u c : Nat) : (s.setFrame n u c).golay.cout = s.golay.cout := rfl
@[simp] theorem State.setFrame_golay_cin (s : State) (n u c : Nat) : (s.setFrame n u c).golay.cin = s.golay.cin := rfl
@[simp] theorem State.setFrame_golay_dout (s : State) (n u c : Nat) : (s.setFrame n u c).golay.dout = s.golay.dout := rfl
@[simp] theorem State.setFrame_golay_dstat (s : State) (n u c : Nat) : (s.setFrame n u c).golay.dstat = s.golay.dstat := rfl
@[simp] theorem State.setFrame_golay_pre (s : State) (n u c : Nat) : (s.setFrame n u c).golay.pre = s.golay.pre := rfl
@[simp] theorem State.setFrame_golay_post (s : State) (n u c : Nat) : (s.setFrame n u c).golay.post = s.golay.post := rfl
@[simp] theorem State.setFrame_golay_fblk (s : State) (n u c : Nat) : (s.setFrame n u c).golay.fblk = BitVec.ofNat 32 n := rfl
@[simp] theorem State.setFrame_golay_func (s : State) (n u c : Nat) : (s.setFrame n u c).golay.func = BitVec.ofNat 32 u := rfl
@[simp] theorem State.setFrame_golay_fcor (s : State) (n u c : Nat) : (s.setFrame n u c).golay.fcor = BitVec.ofNat 32 c := rfl
@[simp] theorem State.setFrame_prbs0 (s : State) (n u c : Nat) : (s.setFrame n u c).prbs0 = s.prbs0 := rfl
@[simp] theorem State.setFrame_prbs1 (s : State) (n u c : Nat) : (s.setFrame n u c).prbs1 = s.prbs1 := rfl
@[simp] theorem State.setFrame_ver (s : State) (n u c : Nat) : (s.setFrame n u c).ver = s.ver := rfl
@[simp] theorem State.setFrame_dop (s : State) (n u c : Nat) : (s.setFrame n u c).dop = s.dop := rfl
@[simp] theorem State.setFrame_wsh (s : State) (n u c : Nat) : (s.setFrame n u c).wsh = s.wsh := rfl
@[simp] theorem State.setFrame_rsh (s : State) (n u c : Nat) : (s.setFrame n u c).rsh = s.rsh := rfl
@[simp] theorem State.setFrame_buf (s : State) (n u c : Nat) : (s.setFrame n u c).buf = s.buf := rfl
@[simp] theorem State.setFrame_history (s : State) (n u c : Nat) : (s.setFrame n u c).history = s.history := rfl
@[simp] theorem State.setFrame_agenda (s : State) (n u c : Nat) : (s.setFrame n u c).agenda = s.agenda := rfl
@[simp] theorem State.setFrame_resp (s : State) (n u c : Nat) : (s.setFrame n u c).resp = s.resp := rfl

/-! ### A skipped sample (R215) -/

@[simp] theorem State.skip_ctl_cmd (s : State) : (s.skip).ctl.cmd = s.ctl.cmd := rfl
@[simp] theorem State.skip_ctl_busy (s : State) : (s.skip).ctl.busy = s.ctl.busy := rfl
@[simp] theorem State.skip_ctl_snap (s : State) : (s.skip).ctl.snap = s.ctl.snap := rfl
@[simp] theorem State.skip_ctl_result (s : State) : (s.skip).ctl.result = s.ctl.result := rfl
@[simp] theorem State.skip_ctl_irqPend (s : State) : (s.skip).ctl.irqPend = s.ctl.irqPend ||| irqDSkip := rfl
@[simp] theorem State.skip_ctl_irqEn (s : State) : (s.skip).ctl.irqEn = s.ctl.irqEn := rfl
@[simp] theorem State.skip_ctl_arg0 (s : State) : (s.skip).ctl.arg0 = s.ctl.arg0 := rfl
@[simp] theorem State.skip_ctl_arg1 (s : State) : (s.skip).ctl.arg1 = s.ctl.arg1 := rfl
@[simp] theorem State.skip_ctl_arg2 (s : State) : (s.skip).ctl.arg2 = s.ctl.arg2 := rfl
@[simp] theorem State.skip_ctl_arg3 (s : State) : (s.skip).ctl.arg3 = s.ctl.arg3 := rfl
@[simp] theorem State.skip_ctl_res0 (s : State) : (s.skip).ctl.res0 = s.ctl.res0 := rfl
@[simp] theorem State.skip_ctl_res1 (s : State) : (s.skip).ctl.res1 = s.ctl.res1 := rfl
@[simp] theorem State.skip_golay (s : State) : (s.skip).golay = s.golay := rfl
@[simp] theorem State.skip_prbs0 (s : State) : (s.skip).prbs0 = s.prbs0 := rfl
@[simp] theorem State.skip_prbs1 (s : State) : (s.skip).prbs1 = s.prbs1 := rfl
@[simp] theorem State.skip_ver (s : State) : (s.skip).ver = s.ver := rfl
@[simp] theorem State.skip_dop_now (s : State) : (s.skip).dop.now = s.dop.now := rfl
@[simp] theorem State.skip_dop_fdl (s : State) : (s.skip).dop.fdl = s.dop.fdl := rfl
@[simp] theorem State.skip_dop_ful (s : State) : (s.skip).dop.ful = s.dop.ful := rfl
@[simp] theorem State.skip_dop_rr (s : State) : (s.skip).dop.rr = s.dop.rr := rfl
@[simp] theorem State.skip_dop_dl (s : State) : (s.skip).dop.dl = s.dop.dl := rfl
@[simp] theorem State.skip_dop_ul (s : State) : (s.skip).dop.ul = s.dop.ul := rfl
@[simp] theorem State.skip_dop_pt (s : State) : (s.skip).dop.pt = s.dop.pt := rfl
@[simp] theorem State.skip_dop_base (s : State) : (s.skip).dop.base = s.dop.base := rfl
@[simp] theorem State.skip_dop_cnt (s : State) : (s.skip).dop.cnt = s.dop.cnt := rfl
@[simp] theorem State.skip_dop_idx (s : State) : (s.skip).dop.idx = s.dop.idx + 1 := rfl
@[simp] theorem State.skip_dop_pubn (s : State) : (s.skip).dop.pubn = s.dop.pubn := rfl
@[simp] theorem State.skip_dop_skipn (s : State) : (s.skip).dop.skipn = satInc s.dop.skipn := rfl
@[simp] theorem State.skip_dop_phase (s : State) : (s.skip).dop.phase = s.dop.phase := rfl
@[simp] theorem State.skip_dop_lt (s : State) : (s.skip).dop.lt = s.dop.lt := rfl
@[simp] theorem State.skip_dop_lr (s : State) : (s.skip).dop.lr = s.dop.lr := rfl
@[simp] theorem State.skip_dop_drun (s : State) : (s.skip).dop.drun = s.dop.drun := rfl
@[simp] theorem State.skip_wsh (s : State) : (s.skip).wsh = s.wsh := rfl
@[simp] theorem State.skip_rsh (s : State) : (s.skip).rsh = s.rsh := rfl
@[simp] theorem State.skip_buf (s : State) : (s.skip).buf = s.buf := rfl
@[simp] theorem State.skip_history (s : State) : (s.skip).history = s.history := rfl
@[simp] theorem State.skip_agenda (s : State) : (s.skip).agenda = s.agenda := rfl
@[simp] theorem State.skip_resp (s : State) : (s.skip).resp = s.resp := rfl

/-! ### A publish (R214) -/

@[simp] theorem State.publish_ctl_cmd (s : State) : (s.publish).ctl.cmd = s.ctl.cmd := rfl
@[simp] theorem State.publish_ctl_busy (s : State) : (s.publish).ctl.busy = s.ctl.busy := rfl
@[simp] theorem State.publish_ctl_snap (s : State) : (s.publish).ctl.snap = s.ctl.snap := rfl
@[simp] theorem State.publish_ctl_result (s : State) : (s.publish).ctl.result = s.ctl.result := rfl
@[simp] theorem State.publish_ctl_irqPend (s : State) : (s.publish).ctl.irqPend = s.ctl.irqPend ||| irqDPub := rfl
@[simp] theorem State.publish_ctl_irqEn (s : State) : (s.publish).ctl.irqEn = s.ctl.irqEn := rfl
@[simp] theorem State.publish_ctl_arg0 (s : State) : (s.publish).ctl.arg0 = s.ctl.arg0 := rfl
@[simp] theorem State.publish_ctl_arg1 (s : State) : (s.publish).ctl.arg1 = s.ctl.arg1 := rfl
@[simp] theorem State.publish_ctl_arg2 (s : State) : (s.publish).ctl.arg2 = s.ctl.arg2 := rfl
@[simp] theorem State.publish_ctl_arg3 (s : State) : (s.publish).ctl.arg3 = s.ctl.arg3 := rfl
@[simp] theorem State.publish_ctl_res0 (s : State) : (s.publish).ctl.res0 = s.ctl.res0 := rfl
@[simp] theorem State.publish_ctl_res1 (s : State) : (s.publish).ctl.res1 = s.ctl.res1 := rfl
@[simp] theorem State.publish_golay (s : State) : (s.publish).golay = s.golay := rfl
@[simp] theorem State.publish_prbs0 (s : State) : (s.publish).prbs0 = s.prbs0 := rfl
@[simp] theorem State.publish_prbs1 (s : State) : (s.publish).prbs1 = s.prbs1 := rfl
@[simp] theorem State.publish_ver (s : State) : (s.publish).ver = s.ver := rfl
@[simp] theorem State.publish_dop_now (s : State) : (s.publish).dop.now = s.dop.now := rfl
@[simp] theorem State.publish_dop_fdl (s : State) : (s.publish).dop.fdl = s.dop.fdl := rfl
@[simp] theorem State.publish_dop_ful (s : State) : (s.publish).dop.ful = s.dop.ful := rfl
@[simp] theorem State.publish_dop_rr (s : State) : (s.publish).dop.rr = s.dop.rr := rfl
@[simp] theorem State.publish_dop_dl (s : State) : (s.publish).dop.dl = enc64 s.latchedDl := rfl
@[simp] theorem State.publish_dop_ul (s : State) : (s.publish).dop.ul = enc64 s.latchedUl := rfl
@[simp] theorem State.publish_dop_pt (s : State) : (s.publish).dop.pt = s.dop.lt := rfl
@[simp] theorem State.publish_dop_base (s : State) : (s.publish).dop.base = s.dop.base := rfl
@[simp] theorem State.publish_dop_cnt (s : State) : (s.publish).dop.cnt = s.dop.cnt := rfl
@[simp] theorem State.publish_dop_idx (s : State) : (s.publish).dop.idx = s.dop.idx + 1 := rfl
@[simp] theorem State.publish_dop_pubn (s : State) : (s.publish).dop.pubn = satInc s.dop.pubn := rfl
@[simp] theorem State.publish_dop_skipn (s : State) : (s.publish).dop.skipn = s.dop.skipn := rfl
@[simp] theorem State.publish_dop_phase (s : State) : (s.publish).dop.phase = .reach := rfl
@[simp] theorem State.publish_dop_lt (s : State) : (s.publish).dop.lt = s.dop.lt := rfl
@[simp] theorem State.publish_dop_lr (s : State) : (s.publish).dop.lr = s.dop.lr := rfl
@[simp] theorem State.publish_dop_drun (s : State) : (s.publish).dop.drun = s.dop.drun := rfl
@[simp] theorem State.publish_wsh (s : State) : (s.publish).wsh = s.wsh := rfl
@[simp] theorem State.publish_rsh (s : State) : (s.publish).rsh = s.rsh := rfl
@[simp] theorem State.publish_buf (s : State) : (s.publish).buf = s.buf := rfl
@[simp] theorem State.publish_history (s : State) :
    (s.publish).history = s.history ++ [{ t := s.dop.lt, now := s.dop.now, dl := s.latchedDl, ul := s.latchedUl }] := rfl
@[simp] theorem State.publish_agenda (s : State) : (s.publish).agenda = s.agenda := rfl
@[simp] theorem State.publish_resp (s : State) : (s.publish).resp = s.resp := rfl

/-! ### The end of a run (R216) -/

@[simp] theorem State.runDone_ctl_cmd (s : State) : (s.runDone).ctl.cmd = s.ctl.cmd := rfl
@[simp] theorem State.runDone_ctl_busy (s : State) : (s.runDone).ctl.busy = s.ctl.busy := rfl
@[simp] theorem State.runDone_ctl_snap (s : State) : (s.runDone).ctl.snap = s.ctl.snap := rfl
@[simp] theorem State.runDone_ctl_result (s : State) : (s.runDone).ctl.result = s.ctl.result := rfl
@[simp] theorem State.runDone_ctl_irqPend (s : State) : (s.runDone).ctl.irqPend = s.ctl.irqPend ||| irqDDone := rfl
@[simp] theorem State.runDone_ctl_irqEn (s : State) : (s.runDone).ctl.irqEn = s.ctl.irqEn := rfl
@[simp] theorem State.runDone_ctl_arg0 (s : State) : (s.runDone).ctl.arg0 = s.ctl.arg0 := rfl
@[simp] theorem State.runDone_ctl_arg1 (s : State) : (s.runDone).ctl.arg1 = s.ctl.arg1 := rfl
@[simp] theorem State.runDone_ctl_arg2 (s : State) : (s.runDone).ctl.arg2 = s.ctl.arg2 := rfl
@[simp] theorem State.runDone_ctl_arg3 (s : State) : (s.runDone).ctl.arg3 = s.ctl.arg3 := rfl
@[simp] theorem State.runDone_ctl_res0 (s : State) : (s.runDone).ctl.res0 = s.ctl.res0 := rfl
@[simp] theorem State.runDone_ctl_res1 (s : State) : (s.runDone).ctl.res1 = s.ctl.res1 := rfl
@[simp] theorem State.runDone_golay (s : State) : (s.runDone).golay = s.golay := rfl
@[simp] theorem State.runDone_prbs0 (s : State) : (s.runDone).prbs0 = s.prbs0 := rfl
@[simp] theorem State.runDone_prbs1 (s : State) : (s.runDone).prbs1 = s.prbs1 := rfl
@[simp] theorem State.runDone_ver (s : State) : (s.runDone).ver = s.ver := rfl
@[simp] theorem State.runDone_dop_now (s : State) : (s.runDone).dop.now = s.dop.now := rfl
@[simp] theorem State.runDone_dop_fdl (s : State) : (s.runDone).dop.fdl = s.dop.fdl := rfl
@[simp] theorem State.runDone_dop_ful (s : State) : (s.runDone).dop.ful = s.dop.ful := rfl
@[simp] theorem State.runDone_dop_rr (s : State) : (s.runDone).dop.rr = s.dop.rr := rfl
@[simp] theorem State.runDone_dop_dl (s : State) : (s.runDone).dop.dl = s.dop.dl := rfl
@[simp] theorem State.runDone_dop_ul (s : State) : (s.runDone).dop.ul = s.dop.ul := rfl
@[simp] theorem State.runDone_dop_pt (s : State) : (s.runDone).dop.pt = s.dop.pt := rfl
@[simp] theorem State.runDone_dop_base (s : State) : (s.runDone).dop.base = s.dop.base := rfl
@[simp] theorem State.runDone_dop_cnt (s : State) : (s.runDone).dop.cnt = s.dop.cnt := rfl
@[simp] theorem State.runDone_dop_idx (s : State) : (s.runDone).dop.idx = s.dop.idx := rfl
@[simp] theorem State.runDone_dop_pubn (s : State) : (s.runDone).dop.pubn = s.dop.pubn := rfl
@[simp] theorem State.runDone_dop_skipn (s : State) : (s.runDone).dop.skipn = s.dop.skipn := rfl
@[simp] theorem State.runDone_dop_phase (s : State) : (s.runDone).dop.phase = s.dop.phase := rfl
@[simp] theorem State.runDone_dop_lt (s : State) : (s.runDone).dop.lt = s.dop.lt := rfl
@[simp] theorem State.runDone_dop_lr (s : State) : (s.runDone).dop.lr = s.dop.lr := rfl
@[simp] theorem State.runDone_dop_drun (s : State) : (s.runDone).dop.drun = false := rfl
@[simp] theorem State.runDone_wsh (s : State) : (s.runDone).wsh = s.wsh := rfl
@[simp] theorem State.runDone_rsh (s : State) : (s.runDone).rsh = s.rsh := rfl
@[simp] theorem State.runDone_buf (s : State) : (s.runDone).buf = s.buf := rfl
@[simp] theorem State.runDone_history (s : State) : (s.runDone).history = s.history := rfl
@[simp] theorem State.runDone_agenda (s : State) : (s.runDone).agenda = s.agenda := rfl
@[simp] theorem State.runDone_resp (s : State) : (s.runDone).resp = s.resp := rfl

/-! ### The start of a run (R202) -/

@[simp] theorem State.startRun_ctl (s : State) (b c : Word) : (s.startRun b c).ctl = s.ctl := rfl
@[simp] theorem State.startRun_golay (s : State) (b c : Word) : (s.startRun b c).golay = s.golay := rfl
@[simp] theorem State.startRun_prbs0 (s : State) (b c : Word) : (s.startRun b c).prbs0 = s.prbs0 := rfl
@[simp] theorem State.startRun_prbs1 (s : State) (b c : Word) : (s.startRun b c).prbs1 = s.prbs1 := rfl
@[simp] theorem State.startRun_ver (s : State) (b c : Word) : (s.startRun b c).ver = s.ver := rfl
@[simp] theorem State.startRun_dop_now (s : State) (b c : Word) : (s.startRun b c).dop.now = s.dop.now := rfl
@[simp] theorem State.startRun_dop_fdl (s : State) (b c : Word) : (s.startRun b c).dop.fdl = s.dop.fdl := rfl
@[simp] theorem State.startRun_dop_ful (s : State) (b c : Word) : (s.startRun b c).dop.ful = s.dop.ful := rfl
@[simp] theorem State.startRun_dop_rr (s : State) (b c : Word) : (s.startRun b c).dop.rr = s.dop.rr := rfl
@[simp] theorem State.startRun_dop_dl (s : State) (b c : Word) : (s.startRun b c).dop.dl = s.dop.dl := rfl
@[simp] theorem State.startRun_dop_ul (s : State) (b c : Word) : (s.startRun b c).dop.ul = s.dop.ul := rfl
@[simp] theorem State.startRun_dop_pt (s : State) (b c : Word) : (s.startRun b c).dop.pt = s.dop.pt := rfl
@[simp] theorem State.startRun_dop_base (s : State) (b c : Word) : (s.startRun b c).dop.base = b := rfl
@[simp] theorem State.startRun_dop_cnt (s : State) (b c : Word) : (s.startRun b c).dop.cnt = c := rfl
@[simp] theorem State.startRun_dop_idx (s : State) (b c : Word) : (s.startRun b c).dop.idx = 0 := rfl
@[simp] theorem State.startRun_dop_pubn (s : State) (b c : Word) : (s.startRun b c).dop.pubn = 0 := rfl
@[simp] theorem State.startRun_dop_skipn (s : State) (b c : Word) : (s.startRun b c).dop.skipn = 0 := rfl
@[simp] theorem State.startRun_dop_phase (s : State) (b c : Word) : (s.startRun b c).dop.phase = .reach := rfl
@[simp] theorem State.startRun_dop_lt (s : State) (b c : Word) : (s.startRun b c).dop.lt = s.dop.lt := rfl
@[simp] theorem State.startRun_dop_lr (s : State) (b c : Word) : (s.startRun b c).dop.lr = s.dop.lr := rfl
@[simp] theorem State.startRun_dop_drun (s : State) (b c : Word) : (s.startRun b c).dop.drun = true := rfl
@[simp] theorem State.startRun_wsh (s : State) (b c : Word) : (s.startRun b c).wsh = s.wsh := rfl
@[simp] theorem State.startRun_rsh (s : State) (b c : Word) : (s.startRun b c).rsh = s.rsh := rfl
@[simp] theorem State.startRun_buf (s : State) (b c : Word) : (s.startRun b c).buf = s.buf := rfl
@[simp] theorem State.startRun_history (s : State) (b c : Word) : (s.startRun b c).history = s.history := rfl
@[simp] theorem State.startRun_agenda (s : State) (b c : Word) : (s.startRun b c).agenda = s.agenda := rfl
@[simp] theorem State.startRun_resp (s : State) (b c : Word) : (s.startRun b c).resp = s.resp := rfl

/-! ### A bus response (log 9) -/

@[simp] theorem State.respond_ctl (s : State) (d : Word) : (s.respond d).ctl = s.ctl := rfl
@[simp] theorem State.respond_golay (s : State) (d : Word) : (s.respond d).golay = s.golay := rfl
@[simp] theorem State.respond_prbs0 (s : State) (d : Word) : (s.respond d).prbs0 = s.prbs0 := rfl
@[simp] theorem State.respond_prbs1 (s : State) (d : Word) : (s.respond d).prbs1 = s.prbs1 := rfl
@[simp] theorem State.respond_ver (s : State) (d : Word) : (s.respond d).ver = s.ver := rfl
@[simp] theorem State.respond_dop (s : State) (d : Word) : (s.respond d).dop = s.dop := rfl
@[simp] theorem State.respond_wsh (s : State) (d : Word) : (s.respond d).wsh = s.wsh := rfl
@[simp] theorem State.respond_rsh (s : State) (d : Word) : (s.respond d).rsh = s.rsh := rfl
@[simp] theorem State.respond_buf (s : State) (d : Word) : (s.respond d).buf = s.buf := rfl
@[simp] theorem State.respond_history (s : State) (d : Word) : (s.respond d).history = s.history := rfl
@[simp] theorem State.respond_agenda (s : State) (d : Word) : (s.respond d).agenda = s.agenda := rfl
@[simp] theorem State.respond_resp (s : State) (d : Word) : (s.respond d).resp = some { data := d, error := false } := rfl

/-! ### A bus error (R245) -/

@[simp] theorem State.busError_ctl (s : State) : (s.busError).ctl = s.ctl := rfl
@[simp] theorem State.busError_golay (s : State) : (s.busError).golay = s.golay := rfl
@[simp] theorem State.busError_prbs0 (s : State) : (s.busError).prbs0 = s.prbs0 := rfl
@[simp] theorem State.busError_prbs1 (s : State) : (s.busError).prbs1 = s.prbs1 := rfl
@[simp] theorem State.busError_ver (s : State) : (s.busError).ver = s.ver := rfl
@[simp] theorem State.busError_dop (s : State) : (s.busError).dop = s.dop := rfl
@[simp] theorem State.busError_wsh (s : State) : (s.busError).wsh = s.wsh := rfl
@[simp] theorem State.busError_rsh (s : State) : (s.busError).rsh = s.rsh := rfl
@[simp] theorem State.busError_buf (s : State) : (s.busError).buf = s.buf := rfl
@[simp] theorem State.busError_history (s : State) : (s.busError).history = s.history := rfl
@[simp] theorem State.busError_agenda (s : State) : (s.busError).agenda = s.agenda := rfl
@[simp] theorem State.busError_resp (s : State) : (s.busError).resp = some { data := 0, error := true } := rfl

/-! ### Writing a PRBS unit (R48) -/

@[simp] theorem State.setPrbs_ctl (s : State) (u : Nat) (p : PrbsUnit) : (s.setPrbs u p).ctl = s.ctl := by unfold State.setPrbs; split <;> rfl
@[simp] theorem State.setPrbs_golay (s : State) (u : Nat) (p : PrbsUnit) : (s.setPrbs u p).golay = s.golay := by unfold State.setPrbs; split <;> rfl
@[simp] theorem State.setPrbs_ver (s : State) (u : Nat) (p : PrbsUnit) : (s.setPrbs u p).ver = s.ver := by unfold State.setPrbs; split <;> rfl
@[simp] theorem State.setPrbs_dop (s : State) (u : Nat) (p : PrbsUnit) : (s.setPrbs u p).dop = s.dop := by unfold State.setPrbs; split <;> rfl
@[simp] theorem State.setPrbs_wsh (s : State) (u : Nat) (p : PrbsUnit) : (s.setPrbs u p).wsh = s.wsh := by unfold State.setPrbs; split <;> rfl
@[simp] theorem State.setPrbs_rsh (s : State) (u : Nat) (p : PrbsUnit) : (s.setPrbs u p).rsh = s.rsh := by unfold State.setPrbs; split <;> rfl
@[simp] theorem State.setPrbs_buf (s : State) (u : Nat) (p : PrbsUnit) : (s.setPrbs u p).buf = s.buf := by unfold State.setPrbs; split <;> rfl
@[simp] theorem State.setPrbs_history (s : State) (u : Nat) (p : PrbsUnit) :
    (s.setPrbs u p).history = s.history := by unfold State.setPrbs; split <;> rfl
@[simp] theorem State.setPrbs_agenda (s : State) (u : Nat) (p : PrbsUnit) :
    (s.setPrbs u p).agenda = s.agenda := by unfold State.setPrbs; split <;> rfl
@[simp] theorem State.setPrbs_resp (s : State) (u : Nat) (p : PrbsUnit) : (s.setPrbs u p).resp = s.resp := by unfold State.setPrbs; split <;> rfl
@[simp] theorem State.setPrbs_prbs (s : State) (u : Nat) (p : PrbsUnit) : (s.setPrbs u p).prbs u = p := by
  unfold State.setPrbs State.prbs; split <;> rfl
@[simp] theorem State.setPrbs_zero_prbs0 (s : State) (p : PrbsUnit) : (s.setPrbs 0 p).prbs0 = p := rfl
@[simp] theorem State.setPrbs_zero_prbs1 (s : State) (p : PrbsUnit) : (s.setPrbs 0 p).prbs1 = s.prbs1 := rfl
@[simp] theorem State.setPrbs_one_prbs0 (s : State) (p : PrbsUnit) : (s.setPrbs 1 p).prbs0 = s.prbs0 := rfl
@[simp] theorem State.setPrbs_one_prbs1 (s : State) (p : PrbsUnit) : (s.setPrbs 1 p).prbs1 = p := rfl
@[simp] theorem State.prbs_zero (s : State) : s.prbs 0 = s.prbs0 := rfl
@[simp] theorem State.prbs_one (s : State) : s.prbs 1 = s.prbs1 := rfl

/-! ### Latching a sample (R212) -/

@[simp] theorem State.latch_ctl (s : State) : s.latch.ctl = s.ctl := by unfold State.latch; split <;> rfl
@[simp] theorem State.latch_golay (s : State) : s.latch.golay = s.golay := by unfold State.latch; split <;> rfl
@[simp] theorem State.latch_prbs0 (s : State) : s.latch.prbs0 = s.prbs0 := by unfold State.latch; split <;> rfl
@[simp] theorem State.latch_prbs1 (s : State) : s.latch.prbs1 = s.prbs1 := by unfold State.latch; split <;> rfl
@[simp] theorem State.latch_ver (s : State) : s.latch.ver = s.ver := by unfold State.latch; split <;> rfl
@[simp] theorem State.latch_wsh (s : State) : s.latch.wsh = s.wsh := by unfold State.latch; split <;> rfl
@[simp] theorem State.latch_rsh (s : State) : s.latch.rsh = s.rsh := by unfold State.latch; split <;> rfl
@[simp] theorem State.latch_buf (s : State) : s.latch.buf = s.buf := by unfold State.latch; split <;> rfl
@[simp] theorem State.latch_history (s : State) : s.latch.history = s.history := by unfold State.latch; split <;> rfl
@[simp] theorem State.latch_agenda (s : State) : s.latch.agenda = s.agenda := by unfold State.latch; split <;> rfl
@[simp] theorem State.latch_resp (s : State) : s.latch.resp = s.resp := by unfold State.latch; split <;> rfl
@[simp] theorem State.latch_dop_now (s : State) : s.latch.dop.now = s.dop.now := by unfold State.latch; split <;> rfl
@[simp] theorem State.latch_dop_fdl (s : State) : s.latch.dop.fdl = s.dop.fdl := by unfold State.latch; split <;> rfl
@[simp] theorem State.latch_dop_ful (s : State) : s.latch.dop.ful = s.dop.ful := by unfold State.latch; split <;> rfl
@[simp] theorem State.latch_dop_rr (s : State) : s.latch.dop.rr = s.dop.rr := by unfold State.latch; split <;> rfl
@[simp] theorem State.latch_dop_dl (s : State) : s.latch.dop.dl = s.dop.dl := by unfold State.latch; split <;> rfl
@[simp] theorem State.latch_dop_ul (s : State) : s.latch.dop.ul = s.dop.ul := by unfold State.latch; split <;> rfl
@[simp] theorem State.latch_dop_pt (s : State) : s.latch.dop.pt = s.dop.pt := by unfold State.latch; split <;> rfl
@[simp] theorem State.latch_dop_base (s : State) : s.latch.dop.base = s.dop.base := by unfold State.latch; split <;> rfl
@[simp] theorem State.latch_dop_cnt (s : State) : s.latch.dop.cnt = s.dop.cnt := by unfold State.latch; split <;> rfl
@[simp] theorem State.latch_dop_idx (s : State) : s.latch.dop.idx = s.dop.idx := by unfold State.latch; split <;> rfl
@[simp] theorem State.latch_dop_pubn (s : State) : s.latch.dop.pubn = s.dop.pubn := by unfold State.latch; split <;> rfl
@[simp] theorem State.latch_dop_skipn (s : State) : s.latch.dop.skipn = s.dop.skipn := by unfold State.latch; split <;> rfl
@[simp] theorem State.latch_dop_drun (s : State) : s.latch.dop.drun = s.dop.drun := by unfold State.latch; split <;> rfl
@[simp] theorem State.latch_dop_phase (s : State) : s.latch.dop.phase = .wait := by
  unfold State.latch; split <;> simp_all
theorem State.latch_of_wait (s : State) (h : s.dop.phase = .wait) : s.latch = s := by
  unfold State.latch; rw [h]
theorem State.latch_dop_lt_of_reach (s : State) (h : s.dop.phase = .reach) : s.latch.dop.lt = BitVec.ofNat 64 s.reached.t := by
  unfold State.latch; rw [h]
theorem State.latch_dop_lr_of_reach (s : State) (h : s.dop.phase = .reach) : s.latch.dop.lr = enc64 s.reached.r := by
  unfold State.latch; rw [h]

/-! ### The 64-bit access protocol (R88) -/

@[simp] theorem State.latchRead_ctl (s : State) (r : Reg64) (v : Word) : (s.latchRead r v).ctl = s.ctl := by cases r <;> rfl
@[simp] theorem State.writeLo_ctl (s : State) (r : Reg64) (v : Word) : (s.writeLo r v).ctl = s.ctl := by cases r <;> rfl
@[simp] theorem State.latchRead_golay (s : State) (r : Reg64) (v : Word) : (s.latchRead r v).golay = s.golay := by cases r <;> rfl
@[simp] theorem State.writeLo_golay (s : State) (r : Reg64) (v : Word) : (s.writeLo r v).golay = s.golay := by cases r <;> rfl
@[simp] theorem State.latchRead_prbs0 (s : State) (r : Reg64) (v : Word) : (s.latchRead r v).prbs0 = s.prbs0 := by cases r <;> rfl
@[simp] theorem State.writeLo_prbs0 (s : State) (r : Reg64) (v : Word) : (s.writeLo r v).prbs0 = s.prbs0 := by cases r <;> rfl
@[simp] theorem State.latchRead_prbs1 (s : State) (r : Reg64) (v : Word) : (s.latchRead r v).prbs1 = s.prbs1 := by cases r <;> rfl
@[simp] theorem State.writeLo_prbs1 (s : State) (r : Reg64) (v : Word) : (s.writeLo r v).prbs1 = s.prbs1 := by cases r <;> rfl
@[simp] theorem State.latchRead_ver (s : State) (r : Reg64) (v : Word) : (s.latchRead r v).ver = s.ver := by cases r <;> rfl
@[simp] theorem State.writeLo_ver (s : State) (r : Reg64) (v : Word) : (s.writeLo r v).ver = s.ver := by cases r <;> rfl
@[simp] theorem State.latchRead_dop (s : State) (r : Reg64) (v : Word) : (s.latchRead r v).dop = s.dop := by cases r <;> rfl
@[simp] theorem State.writeLo_dop (s : State) (r : Reg64) (v : Word) : (s.writeLo r v).dop = s.dop := by cases r <;> rfl
@[simp] theorem State.latchRead_wsh (s : State) (r : Reg64) (v : Word) : (s.latchRead r v).wsh = s.wsh := by cases r <;> rfl
@[simp] theorem State.writeLo_rsh (s : State) (r : Reg64) (v : Word) : (s.writeLo r v).rsh = s.rsh := by cases r <;> rfl
@[simp] theorem State.latchRead_buf (s : State) (r : Reg64) (v : Word) : (s.latchRead r v).buf = s.buf := by cases r <;> rfl
@[simp] theorem State.writeLo_buf (s : State) (r : Reg64) (v : Word) : (s.writeLo r v).buf = s.buf := by cases r <;> rfl
@[simp] theorem State.latchRead_history (s : State) (r : Reg64) (v : Word) : (s.latchRead r v).history = s.history := by cases r <;> rfl
@[simp] theorem State.writeLo_history (s : State) (r : Reg64) (v : Word) : (s.writeLo r v).history = s.history := by cases r <;> rfl
@[simp] theorem State.latchRead_agenda (s : State) (r : Reg64) (v : Word) : (s.latchRead r v).agenda = s.agenda := by cases r <;> rfl
@[simp] theorem State.writeLo_agenda (s : State) (r : Reg64) (v : Word) : (s.writeLo r v).agenda = s.agenda := by cases r <;> rfl
@[simp] theorem State.latchRead_resp (s : State) (r : Reg64) (v : Word) : (s.latchRead r v).resp = s.resp := by cases r <;> rfl
@[simp] theorem State.writeLo_resp (s : State) (r : Reg64) (v : Word) : (s.writeLo r v).resp = s.resp := by cases r <;> rfl
@[simp] theorem State.latchRead_readShadow (s : State) (r : Reg64) (v : Word) : (s.latchRead r v).readShadow r = v := by
  cases r <;> rfl
@[simp] theorem State.latchRead_get64 (s : State) (r q : Reg64) (v : Word) : (s.latchRead r v).get64 q = s.get64 q := by
  cases q <;> simp [State.get64]
@[simp] theorem State.writeLo_get64 (s : State) (r q : Reg64) (v : Word) : (s.writeLo r v).get64 q = s.get64 q := by
  cases q <;> simp [State.get64]

/-! ### Soft reset (R281) -/

@[simp] theorem State.softReset_ctl (s : State) : s.softReset.ctl = State.reset.ctl := rfl
@[simp] theorem State.softReset_golay (s : State) : s.softReset.golay = State.reset.golay := rfl
@[simp] theorem State.softReset_prbs0 (s : State) : s.softReset.prbs0 = State.reset.prbs0 := rfl
@[simp] theorem State.softReset_prbs1 (s : State) : s.softReset.prbs1 = State.reset.prbs1 := rfl
@[simp] theorem State.softReset_ver (s : State) : s.softReset.ver = State.reset.ver := rfl
@[simp] theorem State.softReset_dop (s : State) : s.softReset.dop = State.reset.dop := rfl
@[simp] theorem State.softReset_wsh (s : State) : s.softReset.wsh = State.reset.wsh := rfl
@[simp] theorem State.softReset_rsh (s : State) : s.softReset.rsh = State.reset.rsh := rfl
@[simp] theorem State.softReset_buf (s : State) : s.softReset.buf = s.buf := rfl
@[simp] theorem State.softReset_history (s : State) : s.softReset.history = s.history := rfl
@[simp] theorem State.softReset_agenda (s : State) : s.softReset.agenda = s.agenda := rfl
@[simp] theorem State.softReset_resp (s : State) : s.softReset.resp = s.resp := rfl

end Sys2Proof.Machine
end

