-- ==== Sys2Proof/Laws/Memory.lean ====
section
/-! SUPPORT. Buffer memory: read after write, what a write leaves alone, the lengths of byte sequences, and that every memory operation keeps the
canonical form (20_memory.md R80, R84, R89). -/

namespace Sys2Proof.Machine

@[simp] theorem leBytes_length (n v : Nat) : (leBytes n v).length = n := by simp [leBytes]

@[simp] theorem Memory.bytes_length (m : Memory) (a n : Nat) : (m.bytes a n).length = n := by simp [Memory.bytes]

@[simp] theorem Memory.bytes_getD (m : Memory) (a n k : Nat) (d : Byte) :
    (m.bytes a n).getD k d = if k < n then m.byte (a + k) else d := by
  by_cases h : k < n <;> simp [Memory.bytes, List.getD, h]

/-- One byte written. -/
theorem Memory.byte_cellPut (m : Memory) (a : Nat) (b : Byte) (x : Nat) :
    Memory.byte (cellPut m a b) x = if x = a then b else m.byte x := by
  unfold Memory.byte
  rw [cellGet_cellPut]
  split <;> rfl

/-- A byte sequence written, read back at any address: inside its range the byte stored there, outside it what was there. -/
theorem Memory.byte_writeBytes (m : Memory) (a : Nat) (bs : List Byte) (x : Nat) :
    (m.writeBytes a bs).byte x = if a ≤ x ∧ x < a + bs.length then bs.getD (x - a) 0 else m.byte x := by
  induction bs generalizing m a with
  | nil => simp only [Memory.writeBytes, List.length_nil]; rw [if_neg]; omega
  | cons b rest ih =>
    simp only [Memory.writeBytes, List.length_cons, ih, Memory.byte_cellPut]
    by_cases hx : x = a
    · subst hx
      rw [if_neg (by omega), if_pos rfl, if_pos (by omega)]
      simp
    · by_cases hin : a + 1 ≤ x ∧ x < a + 1 + rest.length
      · rw [if_pos hin, if_pos (by omega)]
        obtain ⟨k, hk⟩ : ∃ k, x - a = k + 1 := ⟨x - a - 1, by omega⟩
        rw [hk, show x - (a + 1) = k by omega, List.getD_cons_succ]
      · rw [if_neg hin, if_neg hx, if_neg (by omega)]

/-- A write leaves every byte outside its range alone. -/
theorem Memory.byte_writeBytes_outside (m : Memory) (a : Nat) (bs : List Byte) (x : Nat) (h : x < a ∨ a + bs.length ≤ x) :
    (m.writeBytes a bs).byte x = m.byte x := by
  rw [Memory.byte_writeBytes, if_neg (by omega)]

/-- A write gives each byte of its range the byte stored there. -/
theorem Memory.byte_writeBytes_inside (m : Memory) (a : Nat) (bs : List Byte) (k : Nat) (h : k < bs.length) :
    (m.writeBytes a bs).byte (a + k) = bs.getD k 0 := by
  rw [Memory.byte_writeBytes, if_pos (by omega), Nat.add_sub_cancel_left]

/-- R80: storing bytes inside BUF keeps memory canonical. -/
theorem Memory.wf_writeBytes {m : Memory} (h : Memory.wf m) {a : Nat} {bs : List Byte} (hb : inBounds a bs.length = true) :
    Memory.wf (m.writeBytes a bs) := by
  induction bs generalizing m a with
  | nil => exact h
  | cons b rest ih =>
    have hle : a + (rest.length + 1) ≤ Config.bufSize := by simpa [inBounds] using hb
    refine ih (m := cellPut m a b) ⟨keysRise_cellPut h.1 a b, fun c hc => ?_⟩ ?_
    · rcases mem_cellPut hc with rfl | hc
      · simp only; omega
      · exact h.2 c hc
    · unfold inBounds
      simp only [Bool.or_eq_true, decide_eq_true_eq]
      omega

@[simp] theorem State.byteAt_store (s : State) (a : Nat) (bs : List Byte) (x : Nat) :
    (s.store a bs).byteAt x = if a ≤ x ∧ x < a + bs.length then bs.getD (x - a) 0 else s.byteAt x :=
  Memory.byte_writeBytes s.buf a bs x

/-- R80: the memory of the reset state is canonical. -/
theorem reset_mem_wf : Memory.wf State.reset.buf := ⟨List.Pairwise.nil, fun _ h => nomatch h⟩

/-- R89: the little-endian value of `n` bytes is below `256^n`. -/
theorem leValue_lt (bs : List Byte) : leValue bs < 256 ^ bs.length := by
  induction bs with
  | nil => simp [leValue]
  | cons b rest ih =>
    have := b.isLt
    simp only [leValue, List.length_cons, Nat.pow_succ]
    omega

theorem leBytes_succ (n v : Nat) : leBytes (n + 1) v = BitVec.ofNat 8 v :: leBytes n (v / 256) := by
  unfold leBytes
  rw [List.range_succ_eq_map, List.map_cons, List.map_map]
  congr 1
  · simp
  · refine List.map_congr_left fun k _ => ?_
    simp [Nat.pow_succ, Nat.mul_comm (256 ^ k) 256, Nat.div_div_eq_div_mul]

/-- R89: a little-endian store read back gives the value's low bytes. -/
theorem leValue_leBytes (n v : Nat) : leValue (leBytes n v) = v % 256 ^ n := by
  induction n generalizing v with
  | zero => simp [leBytes, leValue, Nat.mod_one]
  | succ n ih =>
    rw [leBytes_succ, leValue, ih, BitVec.toNat_ofNat, show 256 ^ (n + 1) = 256 * 256 ^ n by ring, Nat.mod_mul]

/-- A range just written reads back as the bytes written. -/
theorem Memory.bytes_writeBytes_same (m : Memory) (a : Nat) (bs : List Byte) : (m.writeBytes a bs).bytes a bs.length = bs := by
  refine List.ext_getElem (by simp) fun k h1 h2 => ?_
  have := Memory.byte_writeBytes_inside m a bs k h2
  simpa [Memory.bytes, List.getD, h2] using this

/-- A range apart from the one written reads as before. -/
theorem Memory.bytes_writeBytes_apart (m : Memory) (a : Nat) (bs : List Byte) (b n : Nat) (h : b + n ≤ a ∨ a + bs.length ≤ b) :
    (m.writeBytes a bs).bytes b n = m.bytes b n := by
  refine List.map_congr_left fun k hk => Memory.byte_writeBytes_outside m a bs _ ?_
  have := List.mem_range.1 hk
  omega

end Sys2Proof.Machine
end

