-- ==== Sys2Proof/Laws/Ops.lean ====
section
/-! SUPPORT. What the shared operations and each command's rule can do, said once: a command ends in its rule's state completed with OK, or in its
own state completed with an error (44_control.md R231, 60_exceptions.md R241-R243). -/

namespace Sys2Proof.Machine

/-- The rule each command runs, before its completion. -/
def ruleOf : Instr → State → Except CmdError State
  | .nop, s => .ok s
  | .pcfg u sel, s => pcfgRule u sel s
  | .pgen u, s => pgenRule u s
  | .pgeno u, s => pgenoRule u s
  | .pseq u, s => pseqRule u s
  | .genc, s => gencRule s
  | .gdec, s => gdecRule s
  | .gencf, s => gencfRule s
  | .gdecf, s => gdecfRule s
  | .vcfg, s => vcfgRule s
  | .vseen, s => vseenRule s
  | .vpkt, s => vpktRule s
  | .vfin, s => vfinRule s
  | .dinterp, s => dinterpRule s
  | .dshift, s => dshiftRule s
  | .dstart, s => dstartRule s
  | .dstop, s => dstopRule s

/-- Every command is its rule and then its completion. -/
theorem exec_eq_finish (i : Instr) (s : State) : exec i s = finish s (ruleOf i s) := by cases i <;> rfl

@[simp] theorem finish_ok (s t : State) : finish s (.ok t) = .next (t.complete none) := rfl
@[simp] theorem finish_error (s : State) (e : CmdError) : finish s (.error e) = .next (s.complete (some e)) := rfl

/-- What a command's execution can be: its rule reached its end, or it raised an error and changed only the completion state. -/
theorem exec_next_cases {i : Instr} {s t : State} (h : exec i s = .next t) :
    (∃ r, ruleOf i s = .ok r ∧ t = r.complete none) ∨ (∃ e, ruleOf i s = .error e ∧ t = s.complete (some e)) := by
  rw [exec_eq_finish] at h
  cases hr : ruleOf i s with
  | ok r => rw [hr, finish_ok] at h; cases h; exact .inl ⟨r, rfl, rfl⟩
  | error e => rw [hr, finish_error] at h; cases h; exact .inr ⟨e, rfl, rfl⟩

theorem exec_of_ok {i : Instr} {s r : State} (h : ruleOf i s = .ok r) : exec i s = .next (r.complete none) := by
  rw [exec_eq_finish, h, finish_ok]

theorem exec_of_error {i : Instr} {s : State} {e : CmdError} (h : ruleOf i s = .error e) :
    exec i s = .next (s.complete (some e)) := by rw [exec_eq_finish, h, finish_error]

/-- R240: the code of `RESULT` after a completion. -/
theorem resultWord_code (w : Word) (e : Option CmdError) : (resultWord w e).extractLsb' 0 8 = resultCode e := by
  unfold resultWord
  refine BitVec.eq_of_getLsbD_eq fun i hi => ?_
  simp only [BitVec.getLsbD_extractLsb', BitVec.getLsbD_append]
  rw [if_pos (by omega)]
  simp [hi]

/-- R35: bits 23:8 of `RESULT` read 0. -/
theorem resultWord_middle (w : Word) (e : Option CmdError) : (resultWord w e).extractLsb' 8 16 = 0 := by
  unfold resultWord
  refine BitVec.eq_of_getLsbD_eq fun i hi => ?_
  simp only [BitVec.getLsbD_extractLsb', BitVec.getLsbD_append, BitVec.getLsbD_zero]
  rw [if_neg (by omega), if_pos (by omega)]
  simp

/-- R35: `RESULT.OPC` is bits 31:24 of the command word. -/
theorem resultWord_opc (w : Word) (e : Option CmdError) : (resultWord w e).extractLsb' 24 8 = w.extractLsb' 24 8 := by
  unfold resultWord
  refine BitVec.eq_of_getLsbD_eq fun i hi => ?_
  simp only [BitVec.getLsbD_extractLsb', BitVec.getLsbD_append]
  rw [if_neg (by omega), if_neg (by omega), show 24 + i - 8 - 16 = i by omega]
  simp [hi]

/-- R240: an error's code is not 0. -/
theorem resultCode_eq_zero (e : Option CmdError) : resultCode e = 0 ↔ e = none := by
  cases e with
  | none => simp [resultCode]
  | some e => cases e <;> simp [resultCode]

/-- R240: no reserved code is ever produced. -/
theorem resultCode_le (e : Option CmdError) : (resultCode e).toNat ≤ 8 := by
  cases e with
  | none => simp [resultCode]
  | some e => cases e <;> simp [resultCode]

/-- R84: the empty range is in bounds, any other when it ends inside BUF. -/
theorem inBounds_iff (a n : Nat) : inBounds a n = true ↔ n = 0 ∨ a + n ≤ Config.bufSize := by simp [inBounds]

/-! ### What each rule does when it reaches its end -/

theorem pcfgRule_ok {u sel : Nat} {s t : State} (h : pcfgRule u sel s = .ok t) :
    s.a0 ≠ 0 ∧ s.a0 ≤ Config.maxCycleLen ∧ t = s.setPrbs u (PrbsUnit.configured (BitVec.ofNat 2 sel) s.ctl.snap.arg0) := by
  unfold pcfgRule at h
  split at h
  · cases h
  · cases h; rename_i hc; exact ⟨fun h0 => hc (.inl h0), by omega, rfl⟩

theorem pgenRule_ok {u : Nat} {s t : State} (h : pgenRule u s = .ok t) :
    (s.prbs u).len ≠ 0 ∧ inBounds s.a0 (byteCount s.a1) = true ∧
      t = ((s.store s.a0 (pack ((s.prbs u).bits (s.prbs u).cur.toNat s.a1))).setPrbs u ((s.prbs u).advance s.a1)).setRes0
        (byteCount s.a1) := by
  unfold pgenRule at h
  simp only at h
  split at h
  · cases h
  · split at h
    · cases h
    · rename_i hl hb
      cases h
      exact ⟨hl, by simpa using hb, rfl⟩

theorem pgenoRule_ok {u : Nat} {s t : State} (h : pgenoRule u s = .ok t) :
    (s.prbs u).len ≠ 0 ∧ inBounds s.a0 (byteCount s.a1) = true ∧
      t = (s.store s.a0 (pack ((s.prbs u).bits s.bitOffset s.a1))).setRes0 (byteCount s.a1) := by
  unfold pgenoRule at h
  simp only at h
  split at h
  · cases h
  · split at h
    · cases h
    · rename_i hl hb
      cases h
      exact ⟨hl, by simpa using hb, rfl⟩

theorem pseqRule_ok {u : Nat} {s t : State} (h : pseqRule u s = .ok t) :
    (s.prbs u).len ≠ 0 ∧ s.a2 ≠ 0 ∧ s.a2 % 8 = 0 ∧ inBounds s.a0 (4 + s.a2 / 8) = true ∧
      t = (s.store s.a0 ((s.prbs u).packet s.a1 s.a2)).setRes0 (4 + s.a2 / 8) := by
  unfold pseqRule at h
  simp only at h
  split at h
  · cases h
  · split at h
    · cases h
    · split at h
      · cases h
      · rename_i hl hz hb
        cases h
        exact ⟨hl, by omega, by omega, by simpa using hb, rfl⟩

theorem gencfRule_ok {s t : State} (h : gencfRule s = .ok t) :
    s.a1 % 3 = 0 ∧ inBounds s.a0 s.a1 = true ∧ inBounds s.a2 (8 + 2 * s.a1) = true ∧
      t = ((s.store s.a2 (golayFrame s.ctl.snap.gPre s.ctl.snap.gPost (s.buf.bytes s.a0 s.a1))).setFrame (2 * s.a1 / 3) 0 0).setRes0
        (8 + 2 * s.a1) := by
  unfold gencfRule at h
  split at h
  · cases h
  · split at h
    · cases h
    · rename_i hf hb
      cases h
      simp only [not_or, Bool.not_eq_false] at hb
      exact ⟨by omega, hb.1, hb.2, rfl⟩

/-- R148: what the decoder answers for each block of the message a `GDECF` reads. -/
def gdecfBlocks (s : State) : List GolayResult :=
  golayDecBlocks (unpack (s.buf.bytes (s.a0 + 4) (s.a1 - 8))) ((s.a1 - 8) / 3)

theorem gdecfRule_ok {s t : State} (h : gdecfRule s = .ok t) :
    8 ≤ s.a1 ∧ (s.a1 - 8) % 3 = 0 ∧ inBounds s.a0 s.a1 = true ∧ inBounds s.a2 (golayOutLen ((s.a1 - 8) / 3)) = true ∧
      t = ((((s.store s.a2 (s.buf.bytes s.a0 4 ++ golayDecPayload (gdecfBlocks s) ++ s.buf.bytes (s.a0 + s.a1 - 4) 4)).setFrame
        ((s.a1 - 8) / 3) (golayUncorr (gdecfBlocks s)) (golayCorrected (gdecfBlocks s))).setRes0
        (golayOutLen ((s.a1 - 8) / 3))).setRes1 (golayUncorr (gdecfBlocks s))) := by
  unfold gdecfRule at h
  split at h
  · cases h
  · simp only at h
    split at h
    · cases h
    · rename_i hf hb
      cases h
      simp only [not_or, Bool.not_eq_false] at hb
      exact ⟨by omega, by omega, hb.1, hb.2, rfl⟩

theorem vcfgRule_ok {s t : State} (h : vcfgRule s = .ok t) :
    s.a0 ≠ 0 ∧ s.a0 ≤ Config.maxExpected ∧ s.a1 ≠ 0 ∧ s.a1 % 8 = 0 ∧
      t = { s with ver := s.ver.configured s.ctl.snap.arg0 s.ctl.snap.arg1 } := by
  unfold vcfgRule at h
  split at h
  · cases h
  · rename_i hc
    cases h
    exact ⟨by omega, by omega, by omega, by omega, rfl⟩

theorem vseenRule_ok {s t : State} (h : vseenRule s = .ok t) :
    s.ver.expect ≠ 0 ∧ t = { s with ver := { s.ver with recv := satInc s.ver.recv } } := by
  unfold vseenRule at h
  split at h
  · cases h
  · rename_i hc; cases h; exact ⟨hc, rfl⟩

theorem vpktRule_ok {s t : State} (h : vpktRule s = .ok t) :
    s.ver.expect ≠ 0 ∧ s.prbs1.len ≠ 0 ∧ inBounds s.a0 s.a1 = true ∧
      t = (State.setRes0 { s with ver := s.ver.tally (verdict s s.a0 s.a1) } (verdict s s.a0 s.a1).number).setRes1
        (verdict s s.a0 s.a1).index := by
  unfold vpktRule at h
  split at h
  · cases h
  · split at h
    · cases h
    · rename_i hc hb
      cases h
      simp only [not_or] at hc
      exact ⟨hc.1, hc.2, by simpa using hb, rfl⟩

theorem vfinRule_ok {s t : State} (h : vfinRule s = .ok t) :
    s.ver.expect ≠ 0 ∧
      t = (State.setRes0 { s with ver := s.ver.finalize } s.ver.finalize.miss.toNat).setRes1 s.ver.finalize.dup.toNat := by
  unfold vfinRule at h
  split at h
  · cases h
  · rename_i hc; cases h; exact ⟨hc, rfl⟩

theorem dinterpRule_ok {s t : State} (h : dinterpRule s = .ok t) :
    s.a3 ≠ 0 ∧ inBounds s.a0 (16 * s.a1) = true ∧ inBounds s.a2 (16 * interpCount s.a1 s.a3) = true ∧
      strictlyIncreasing (samplesAt s.buf s.a0 s.a1) = true ∧
      t = (s.store s.a2 ((interp s.a3 (samplesAt s.buf s.a0 s.a1)).flatMap Sample.record)).setRes0 (interpCount s.a1 s.a3) := by
  unfold dinterpRule at h
  split at h
  · cases h
  · split at h
    · cases h
    · simp only at h
      split at h
      · cases h
      · rename_i hz hb hm
        cases h
        simp only [not_or, Bool.not_eq_false] at hb
        exact ⟨hz, hb.1, hb.2, by simpa using hm, rfl⟩

theorem dstartRule_ok {s t : State} (h : dstartRule s = .ok t) :
    inBounds s.a0 (16 * s.a1) = true ∧ s.dop.drun = false ∧ s.a1 ≠ 0 ∧
      t = schedEval (s.startRun s.ctl.snap.arg0 s.ctl.snap.arg1) := by
  unfold dstartRule at h
  split at h
  · cases h
  · split at h
    · cases h
    · split at h
      · cases h
      · rename_i hb hr hz
        cases h
        exact ⟨by simpa using hb, by simpa using hr, hz, rfl⟩

end Sys2Proof.Machine
end

