-- ==== Sys2Proof/Laws/PerInstr.lean ====
section
/-! SUPPORT. The per-instruction family OpcodeMap: a well-formed instruction's word is a legal command (30_encoding.md R107) whose opcode field is the one
the opcode map R106 gives it. -/

namespace Sys2Proof.Laws.OpcodeMap

/-- The opcode that R106 gives each command. -/
def opcode : Instr → Nat
  | .nop => 0x00
  | .pcfg _ _ => 0x10
  | .pgen _ => 0x11
  | .pgeno _ => 0x12
  | .pseq _ => 0x13
  | .genc => 0x20
  | .gdec => 0x21
  | .gencf => 0x22
  | .gdecf => 0x23
  | .vcfg => 0x30
  | .vseen => 0x31
  | .vpkt => 0x32
  | .vfin => 0x33
  | .dinterp => 0x40
  | .dshift => 0x41
  | .dstart => 0x42
  | .dstop => 0x43

/-- A well-formed instruction's word is legal and carries its opcode. -/
def Statement (i : Instr) : Prop := i.wellFormed = true → legalWord (encode i) = true ∧ (opcField (encode i)).toNat = opcode i

theorem nop : Statement .nop := by unfold Statement; decide
theorem genc : Statement .genc := by unfold Statement; decide
theorem gdec : Statement .gdec := by unfold Statement; decide
theorem gencf : Statement .gencf := by unfold Statement; decide
theorem gdecf : Statement .gdecf := by unfold Statement; decide
theorem vcfg : Statement .vcfg := by unfold Statement; decide
theorem vseen : Statement .vseen := by unfold Statement; decide
theorem vpkt : Statement .vpkt := by unfold Statement; decide
theorem vfin : Statement .vfin := by unfold Statement; decide
theorem dinterp : Statement .dinterp := by unfold Statement; decide
theorem dshift : Statement .dshift := by unfold Statement; decide
theorem dstart : Statement .dstart := by unfold Statement; decide
theorem dstop : Statement .dstop := by unfold Statement; decide

/-- A unit field that fits its bit is 0 or 1. -/
theorem unit_cases {u : Nat} (h : decide (u < 2) = true) : u = 0 ∨ u = 1 := by
  have := of_decide_eq_true h
  omega

theorem pgen (u : Nat) : Statement (.pgen u) := fun h => by
  rcases unit_cases h with rfl | rfl <;> decide

theorem pgeno (u : Nat) : Statement (.pgeno u) := fun h => by
  rcases unit_cases h with rfl | rfl <;> decide

theorem pseq (u : Nat) : Statement (.pseq u) := fun h => by
  rcases unit_cases h with rfl | rfl <;> decide

theorem pcfg (u sel : Nat) : Statement (.pcfg u sel) := fun h => by
  obtain ⟨hu, hs⟩ : decide (u < 2) = true ∧ decide (sel < 4) = true := by simpa [Instr.wellFormed] using h
  have hs' := of_decide_eq_true hs
  obtain rfl | rfl | rfl | rfl : sel = 0 ∨ sel = 1 ∨ sel = 2 ∨ sel = 3 := by omega
  all_goals rcases unit_cases hu with rfl | rfl <;> decide

end Sys2Proof.Laws.OpcodeMap
end

