-- ==== Sys2Proof/Laws/Scheduler.lean ====
section
/-! SUPPORT. What a scheduler evaluation can do (43_doppler.md R212-R216), said once: one turn, and what every turn leaves alone. -/

namespace Sys2Proof.Machine

/-- What a scheduler evaluation leaves alone, whatever it publishes and skips. -/
structure SchedFrame (s t : State) : Prop where
  ctl : t.ctl = { s.ctl with irqPend := t.ctl.irqPend }
  golay : t.golay = s.golay
  prbs0 : t.prbs0 = s.prbs0
  prbs1 : t.prbs1 = s.prbs1
  ver : t.ver = s.ver
  wsh : t.wsh = s.wsh
  rsh : t.rsh = s.rsh
  buf : t.buf = s.buf
  agenda : t.agenda = s.agenda
  resp : t.resp = s.resp
  now : t.dop.now = s.dop.now
  fdl : t.dop.fdl = s.dop.fdl
  ful : t.dop.ful = s.dop.ful
  rr : t.dop.rr = s.dop.rr
  base : t.dop.base = s.dop.base
  cnt : t.dop.cnt = s.dop.cnt

theorem SchedFrame.refl (s : State) : SchedFrame s s := by constructor <;> rfl

theorem SchedFrame.trans {s t u : State} (h : SchedFrame s t) (k : SchedFrame t u) : SchedFrame s u where
  ctl := by rw [k.ctl, h.ctl]
  golay := k.golay.trans h.golay
  prbs0 := k.prbs0.trans h.prbs0
  prbs1 := k.prbs1.trans h.prbs1
  ver := k.ver.trans h.ver
  wsh := k.wsh.trans h.wsh
  rsh := k.rsh.trans h.rsh
  buf := k.buf.trans h.buf
  agenda := k.agenda.trans h.agenda
  resp := k.resp.trans h.resp
  now := k.now.trans h.now
  fdl := k.fdl.trans h.fdl
  ful := k.ful.trans h.ful
  rr := k.rr.trans h.rr
  base := k.base.trans h.base
  cnt := k.cnt.trans h.cnt

theorem skip_frame (s : State) : SchedFrame s s.skip := by constructor <;> rfl

theorem publish_frame (s : State) : SchedFrame s s.publish := by constructor <;> rfl

theorem runDone_frame (s : State) : SchedFrame s s.runDone := by constructor <;> rfl

theorem latch_frame (s : State) : SchedFrame s s.latch := by constructor <;> simp

/-- R212: one turn of the evaluation, written out. -/
theorem schedLoop_succ (n : Nat) (s : State) :
    schedLoop (n + 1) s =
      if s.dop.drun = false then s
      else if s.dop.idx = s.dop.cnt then s.runDone
      else if s.passed then schedLoop n s.skip
      else if s.latch.dop.lt ≤ s.latch.dop.now then schedLoop n s.latch.publish
      else s.latch := rfl

/-- R212: what one turn of the evaluation does. -/
theorem schedLoop_succ_cases (n : Nat) (s : State) :
    (s.dop.drun = false ∧ schedLoop (n + 1) s = s) ∨
    (s.dop.drun = true ∧ s.dop.idx = s.dop.cnt ∧ schedLoop (n + 1) s = s.runDone) ∨
    (s.dop.drun = true ∧ s.dop.idx ≠ s.dop.cnt ∧ s.passed = true ∧ schedLoop (n + 1) s = schedLoop n s.skip) ∨
    (s.dop.drun = true ∧ s.dop.idx ≠ s.dop.cnt ∧ s.passed = false ∧ s.latch.dop.lt ≤ s.dop.now ∧
      schedLoop (n + 1) s = schedLoop n s.latch.publish) ∨
    (s.dop.drun = true ∧ s.dop.idx ≠ s.dop.cnt ∧ s.passed = false ∧ s.dop.now < s.latch.dop.lt ∧ schedLoop (n + 1) s = s.latch) := by
  rw [schedLoop_succ]
  by_cases hr : s.dop.drun = false
  · exact .inl ⟨hr, if_pos hr⟩
  · have hr' : s.dop.drun = true := by simpa using hr
    rw [if_neg hr]
    by_cases hi : s.dop.idx = s.dop.cnt
    · exact .inr (.inl ⟨hr', hi, if_pos hi⟩)
    · rw [if_neg hi]
      by_cases hp : s.passed = true
      · exact .inr (.inr (.inl ⟨hr', hi, hp, if_pos hp⟩))
      · rw [if_neg hp]
        have hp' : s.passed = false := by simpa using hp
        by_cases hl : s.latch.dop.lt ≤ s.latch.dop.now
        · exact .inr (.inr (.inr (.inl ⟨hr', hi, hp', by simpa using hl, if_pos hl⟩)))
        · refine .inr (.inr (.inr (.inr ⟨hr', hi, hp', ?_, if_neg hl⟩)))
          simpa using hl

/-- What a scheduler evaluation leaves alone. -/
theorem schedLoop_frame (n : Nat) (s : State) : SchedFrame s (schedLoop n s) := by
  induction n generalizing s with
  | zero => exact SchedFrame.refl s
  | succ n ih =>
    rcases schedLoop_succ_cases n s with h | h | h | h | h
    · rw [h.2]; exact SchedFrame.refl s
    · rw [h.2.2]; exact runDone_frame s
    · rw [h.2.2.2]; exact (skip_frame s).trans (ih _)
    · rw [h.2.2.2.2]; exact ((latch_frame s).trans (publish_frame _)).trans (ih _)
    · rw [h.2.2.2.2]; exact latch_frame s

/-- What a scheduler evaluation leaves alone. -/
theorem schedEval_frame (s : State) : SchedFrame s (schedEval s) := schedLoop_frame _ s

/-- R212, R217: with no run active the evaluation does nothing. -/
theorem schedLoop_stopped (n : Nat) (s : State) (h : s.dop.drun = false) : schedLoop n s = s := by
  cases n with
  | zero => rfl
  | succ n => simp [schedLoop, h]

/-- R212, R217: with no run active the evaluation does nothing. -/
theorem schedEval_stopped (s : State) (h : s.dop.drun = false) : schedEval s = s := schedLoop_stopped _ s h

end Sys2Proof.Machine
end

