-- ==== Sys2Proof/Tests/Slice0.lean ====
section
/-! SUPPORT. Tests. Expected values come from spec/: 30_encoding.md R102-R106 and the vectors of 95_test_vectors.md, named at each. After the tests, one witness
for each statement with hypotheses: a concrete state and operands that meet all of them together, clause by clause. -/

namespace Sys2Proof.Tests

open Sys2Proof.Machine Sys2Proof.Claim

/-! ## Encoding: ill-formed instructions and illegal words -/

theorem test_wellFormed_refuses_pcfg_unit_2 : (Instr.pcfg 2 0).wellFormed = false := by decide
theorem test_wellFormed_refuses_pcfg_sel_4 : (Instr.pcfg 0 4).wellFormed = false := by decide
theorem test_wellFormed_refuses_pgen_unit_2 : (Instr.pgen 2).wellFormed = false := by decide
theorem test_wellFormed_refuses_pgeno_unit_2 : (Instr.pgeno 2).wellFormed = false := by decide
theorem test_wellFormed_refuses_pseq_unit_2 : (Instr.pseq 2).wellFormed = false := by decide
/-- 95_test_vectors.md 2.1: the illegal words. -/
theorem test_legalWord_refuses : ∀ w ∈ ([0x00000001, 0x01000000, 0x0F000000, 0x10000004, 0x10400000, 0x11400000, 0x11000001, 0x20800000, 0x33000080, 0x41000001,
    0x44000000, 0xFF000000] : List Word), legalWord w = false ∧ ∀ i, decode w ≠ .ok i := by
  intro w hw
  fin_cases hw <;> exact ⟨by decide, fun i h => nomatch h⟩

/-! ## Encoding: each command's word, written out from its format and opcode (R102-R106) -/

theorem test_decode_nop : decode 0b00000000_0_0000000000000000000000_0#32 = .ok .nop := by decide
theorem test_decode_pcfg : decode 0b00010000_1_000000000000000000000_10#32 = .ok (.pcfg 1 2) := by decide
theorem test_decode_pgen : decode 0b00010001_1_00000000000000000000000#32 = .ok (.pgen 1) := by decide
theorem test_decode_pgeno : decode 0b00010010_0_00000000000000000000000#32 = .ok (.pgeno 0) := by decide
theorem test_decode_pseq : decode 0b00010011_1_00000000000000000000000#32 = .ok (.pseq 1) := by decide
theorem test_decode_genc : decode 0b00100000_000000000000000000000000#32 = .ok .genc := by decide
theorem test_decode_gdec : decode 0b00100001_000000000000000000000000#32 = .ok .gdec := by decide
theorem test_decode_gencf : decode 0b00100010_000000000000000000000000#32 = .ok .gencf := by decide
theorem test_decode_gdecf : decode 0b00100011_000000000000000000000000#32 = .ok .gdecf := by decide
theorem test_decode_vcfg : decode 0b00110000_000000000000000000000000#32 = .ok .vcfg := by decide
theorem test_decode_vseen : decode 0b00110001_000000000000000000000000#32 = .ok .vseen := by decide
theorem test_decode_vpkt : decode 0b00110010_000000000000000000000000#32 = .ok .vpkt := by decide
theorem test_decode_vfin : decode 0b00110011_000000000000000000000000#32 = .ok .vfin := by decide
theorem test_decode_dinterp : decode 0b01000000_000000000000000000000000#32 = .ok .dinterp := by decide
theorem test_decode_dshift : decode 0b01000001_000000000000000000000000#32 = .ok .dshift := by decide
theorem test_decode_dstart : decode 0b01000010_000000000000000000000000#32 = .ok .dstart := by decide
theorem test_decode_dstop : decode 0b01000011_000000000000000000000000#32 = .ok .dstop := by decide

/-! ## Small states -/

/-- The state after a command; a command always has one. -/
def ran (i : Instr) (s : State) : State :=
  match exec i s with
  | .next t => t
  | .fault _ => s
  | .refused _ => s

theorem exec_ran (i : Instr) (s : State) : exec i s = .next (ran i s) := by
  unfold ran
  rw [exec_eq_finish]
  cases ruleOf i s <;> rfl

/-- The state after a step that goes on. -/
def stepped (s : State) : State :=
  match step s with
  | .next t => t
  | .fault _ => s
  | .refused _ => s

theorem step_stepped {s : State} (h : isNext (step s) = true) : step s = .next (stepped s) := by
  unfold stepped
  cases hs : step s with
  | next t => rfl
  | fault f => rw [hs] at h; cases h
  | refused r => rw [hs] at h; cases h

/-- A command pending with the four operand words in its snapshot. -/
def args (s : State) (a0 a1 a2 a3 : Word) : State :=
  { s with ctl := { s.ctl with busy := true, snap := { s.ctl.snap with arg0 := a0, arg1 := a1, arg2 := a2, arg3 := a3 } } }

/-- The reset state with an agenda. -/
def doing (l : List Event) : State := { State.reset with agenda := l }

/-- A command word pending, and an agenda. -/
def pending (w : Word) (l : List Event) : State := { State.reset with ctl := { Ctl.reset with cmd := w, busy := true }, agenda := l }

/-- The reset state with PRBS units 0 and 1 set to PRBS7 with a cycle length. -/
def units (len : Word) : State := { State.reset with prbs0 := PrbsUnit.configured 0 len, prbs1 := PrbsUnit.configured 0 len }

/-- The setup of 95_test_vectors.md W6: PRBS7 with cycle length 127, 4 packets of 16 bits expected; a packet's bytes at 0. -/
def verifier (packet : List Byte) : State := State.store { units 127 with ver := VerRegs.reset.configured 4 16 } 0 packet

/-- A sample table at address 0. -/
def table (xs : List Sample) : State := State.reset.store 0 (xs.flatMap Sample.record)

/-- A run over the 3-sample table of 95_test_vectors.md S2, waiting for t = 100. -/
def running : State := ran .dstart (args (table [⟨100, 2100000⟩, ⟨150, 2250000⟩, ⟨200, 2400000⟩]) 0 3 0 0)

/-! ## One step each -/

/-- 95_test_vectors.md 2.7, NOP. -/
theorem test_nop : (ran .nop State.reset).ctl.result = 0 ∧ (ran .nop State.reset).ctl.irqPend = 1 := by decide
/-- 95_test_vectors.md PV2, configure. -/
theorem test_pcfg : (ran (.pcfg 0 0) (args State.reset 20 0 0 0)).prbs0 = { poly := 0, len := 20, cur := 0, reg := 0x7F } := by decide
/-- 95_test_vectors.md W1: 40 bits across two resets. -/
theorem test_pgen : (ran (.pgen 0) (args (units 20) 0 40 0 0)).buf.bytes 0 5 = [0x02, 0x0C, 0x20, 0x20, 0xC2] := by decide +kernel
/-- 95_test_vectors.md W1: 24 bits leave cursor 4 and register 0x70. -/
theorem test_pgen_cursor : (ran (.pgen 0) (args (units 20) 0 24 0 0)).prbs0 = { poly := 0, len := 20, cur := 4, reg := 0x70 } := by decide +kernel
/-- 95_test_vectors.md W2: the wrap edge case. -/
theorem test_pgeno : (ran (.pgeno 0) (args (units 20) 0 10 15 0)).buf.bytes 0 2 = [0x10, 0x00] := by decide +kernel
/-- 95_test_vectors.md W2: offset 2^64 - 1. -/
theorem test_pgeno_top : (ran (.pgeno 0) (args (units 20) 0 8 0xFFFFFFFF 0xFFFFFFFF)).buf.bytes 0 1 = [0x10] := by decide +kernel
/-- 95_test_vectors.md PV4, k = 1. -/
theorem test_pseq : (ran (.pseq 0) (args (units 127) 0 1 16 0)).buf.bytes 0 6 = [1, 0, 0, 0, 0x28, 0xF2] := by decide +kernel
/-- 95_test_vectors.md PV3: code 3 beats code 5. -/
theorem test_pseq_code : codeOf (ran (.pseq 0) (args (units 20) 0xFFFF 0 12 0)) = 3 := by decide
/-- 95_test_vectors.md G1. -/
theorem test_genc : golayEnc 0x123 = 0x12365F ∧ golayEnc 0x7FF = 0x7FF23A ∧ golayEnc 0x001 = 0x001FFE := by decide
/-- 95_test_vectors.md G2: bits 20, 12 and 5 of the codeword of 0x123. -/
theorem test_gdec : golayDec 0x02267F = { data := 0x123, nerr := 3, uncorr := false } := by decide +kernel
/-- 95_test_vectors.md G3, encode 3 bytes. -/
theorem test_gencf : (golayFrame 0x44332211 0x88776655 [0x12, 0x34, 0x56]) =
    [0x11, 0x22, 0x33, 0x44, 0x12, 0x36, 0x5F, 0x45, 0x6C, 0x73, 0x55, 0x66, 0x77, 0x88] := by decide +kernel
/-- 95_test_vectors.md G3, decode 1 block: the last payload byte has 4 zero pad bits. -/
theorem test_gdecf : (ran .gdecf (args (State.reset.store 0 [0x11, 0x22, 0x33, 0x44, 0x12, 0x36, 0x5F, 0x55, 0x66, 0x77, 0x88]) 0 11 64 0)).buf.bytes 64 10 =
    [0x11, 0x22, 0x33, 0x44, 0x12, 0x30, 0x55, 0x66, 0x77, 0x88] := by decide +kernel
/-- 95_test_vectors.md V1. -/
theorem test_vcfg : codeOf (ran .vcfg (args State.reset 65537 16 0 0)) = 3 ∧ codeOf (ran .vcfg (args State.reset 65536 8 0 0)) = 0 := by decide
/-- 95_test_vectors.md V1: the RESULT of a VSEEN before VCFG. -/
theorem test_vseen : (ran .vseen (pending 0x31000000 [])).ctl.result = 0x31000002 := by decide
/-- 95_test_vectors.md W6, packet 2: index 1 is correct. -/
theorem test_vpkt : (ran .vpkt (args (verifier [1, 0, 0, 0, 0x28, 0xF2]) 0 6 0 0)).ver.vcnt = [(1, 1)] := by decide +kernel
/-- 95_test_vectors.md W6, packet 5: a payload mismatch at index 2. -/
theorem test_vpkt_mismatch : (ran .vpkt (args (verifier [2, 0, 0, 0, 0x2C, 0xEB]) 0 6 0 0)).ctl.res0 = 2 ∧
    (ran .vpkt (args (verifier [2, 0, 0, 0, 0x2C, 0xEB]) 0 6 0 0)).ctl.res1 = 2 := by decide +kernel
/-- 95_test_vectors.md W6, VFIN: 3 received, 1 missing, fraction 16384, 1 duplicate. -/
theorem test_vfin : (ran .vfin { verifier [] with ver := { VerRegs.reset.configured 4 16 with vcnt := [(0, 1), (1, 2), (3, 1)] } }).ver =
    { VerRegs.reset.configured 4 16 with vcnt := [(0, 1), (1, 2), (3, 1)], rcvd := 3, miss := 1, ferq := 16384, dup := 1, vfinal := true } := by decide
/-- 95_test_vectors.md W8. -/
theorem test_dinterp : interp 2 [⟨2000000000, 2100000⟩, ⟨3000000000, 2400000⟩] =
    [⟨2000000000, 2100000⟩, ⟨2500000000, 2250000⟩, ⟨3000000000, 2400000⟩] := by decide
/-- 95_test_vectors.md W9, and a negative shift of S4. -/
theorem test_dshift : shift 1000000 21000000000000 = 70048459 ∧ shift 2200000000 (-2100000) = -15410 := by decide
/-- 95_test_vectors.md S2: D_NOW = 100 at DSTART publishes sample 0 in the same step. -/
theorem test_dstart : (ran .dstart { args (table [⟨100, 2100000⟩, ⟨150, 2250000⟩, ⟨200, 2400000⟩]) 0 3 0 0 with
    dop := { DopRegs.reset with now := 100, fdl := 1000000000 } }).history = [{ t := 100, now := 100, dl := 7004, ul := 0 }] := by decide +kernel
/-- 95_test_vectors.md DV4: the first sample is latched. -/
theorem test_dstart_latches : running.dop.phase = .wait ∧ running.dop.lt = 100 ∧ running.dop.lr = 2100000 ∧ running.dop.idx = 0 ∧ running.dop.drun = true := by
  decide +kernel
/-- 95_test_vectors.md DV4: a stop in WAIT keeps the latched sample and raises no D_DONE. -/
theorem test_dstop : (ran .dstop running).dop = { running.dop with drun := false } ∧ (ran .dstop running).ctl.irqPend = 1 := by decide +kernel
/-- 95_test_vectors.md S6: D_NOW wraps. -/
theorem test_tick_wraps : (tickStep { State.reset with dop := { DopRegs.reset with now := 0xFFFFFFFFFFFFFFFB } }).dop.now = 5 := by decide
/-- log 10: a placed command is executed by the very next step. -/
theorem test_withFetchWord : (stepped (State.reset.withFetchWord 32 0x10800003)).ctl.result = 0x10000003 ∧
    decodeTableWord 32 0x10800003 = some (.pcfg 1 3) := by decide

/-! ## Witnesses: the hypotheses of each statement, met together, clause by clause -/

theorem witness_DecodeOfEncode : (Instr.pcfg 1 3).wellFormed = true ∧ (Instr.pgen 1).wellFormed = true ∧ (Instr.pgeno 1).wellFormed = true ∧
    (Instr.pseq 1).wellFormed = true := by decide
theorem witness_DecodedInstruction : decode 0x10800003 = .ok (.pcfg 1 3) := by decide
theorem witness_WordDecodes : legalWord 0x10800003 = true ∧ legalWord 0x10800004 = false := by decide
theorem witness_IllegalWord : let s := pending 0x01000000 [.engine]
    s.ctl.busy = true ∧ legalWord s.ctl.cmd = false ∧ s.agenda = .engine :: [] := by decide
theorem witness_StepRuns_empty : (pending 0x20000000 []).ctl.busy = true ∧ decode (pending 0x20000000 []).ctl.cmd = .ok .genc ∧
    (pending 0x20000000 []).agenda = [] := by decide
theorem witness_StepRuns_engine : let s := pending 0x10800003 [.engine, .tick]
    s.ctl.busy = true ∧ decode s.ctl.cmd = .ok (.pcfg 1 3) ∧ s.agenda = .engine :: [.tick] := by decide
theorem witness_StepRuns_held : let s := pending 0x42000000 [.host (.read 0x10000 1)]
    s.ctl.busy = true ∧ decode s.ctl.cmd = .ok .dstart ∧ s.agenda = .host (.read 0x10000 1) :: [] ∧ s.holds (.read 0x10000 1) = true := by decide
theorem witness_Nop : (pending 0 []).ctl.cmd = encode .nop := by decide
theorem witness_FailingCommand : exec .vfin State.reset = .next (ran .vfin State.reset) ∧ codeOf (ran .vfin State.reset) ≠ 0 :=
  ⟨exec_ran _ _, by decide⟩
theorem witness_LowestErrorCode : let s := args State.reset 0xFFF0 2 0 0
    errorHolds s .dinterp .invalidConfig ∧ errorHolds s .dinterp .bounds := by
  exact ⟨rfl, .inl (by decide)⟩
theorem witness_CmdWrite_accepted : let s := doing [.host (.write 0x004 4 0x20000000)]
    s.agenda = .host (.write 0x004 4 0x20000000) :: [] ∧ s.ctl.busy = false := by decide
theorem witness_CmdWrite_dropped : let s := pending 0 [.host (.write 0x004 4 0x20000000)]
    s.agenda = .host (.write 0x004 4 0x20000000) :: [] ∧ s.ctl.busy = true := by decide
theorem witness_OperandWrites : Reg.gDin ∈ operandRegs ∧ Reg.hi .rr ∈ operandRegs ∧ exec .dstart running = .next (ran .dstart running) :=
  ⟨by decide, by decide, exec_ran _ _⟩
theorem witness_OperandWrites_carrier : Instr.dshift ≠ .dstart ∧ (Reg.hi .fdl = .hi .fdl ∨ Reg.hi .fdl = .hi .ful) ∧
    exec .dshift State.reset = .next (ran .dshift State.reset) := ⟨by decide, by decide, exec_ran _ _⟩
theorem witness_PendingCommand : let s := pending 0x20000000 [.tick, .host (.write 0x1FFFF 1 0xA5)]
    s.ctl.busy = true ∧ s.agendaInside = true := by decide
theorem witness_BufWrite : ((1 = 1 ∨ 1 = 2 ∨ 1 = 4) ∧ 65535 % 1 = 0 ∧ 65535 + 1 ≤ 65536) ∧ ((4 = 1 ∨ 4 = 2 ∨ 4 = 4) ∧ 65532 % 4 = 0 ∧ 65532 + 4 ≤ 65536) := by
  decide
theorem witness_BusError_register : let s := doing [.host (.read 0xFFFD 4)]
    (0xFFFD < 0x10000 ∧ ((4 : Nat) ≠ 4 ∨ 0xFFFD % 4 ≠ 0)) ∧ s.agenda = .host (.read 0xFFFD 4) :: [] := by decide
theorem witness_BusError_buffer : let s := doing [.host (.write 0x1FFFE 4 7)]
    s.ctl.busy = false ∧ (0x10000 ≤ 0x1FFFE ∧ 0x1FFFE < 0x20000 ∧ (4 = 1 ∨ 4 = 2 ∨ 4 = 4) ∧
      ((0x1FFFE - 0x10000) % 4 ≠ 0 ∨ 65536 < 0x1FFFE - 0x10000 + 4)) ∧ s.agenda = .host (.write 0x1FFFE 4 7) :: [] := by decide
theorem witness_Busy_register : let s := pending 0x20000000 [.host (.read 0xFFFC 4)]
    s.ctl.busy = true ∧ s.agenda = .host (.read 0xFFFC 4) :: [] ∧ (HostAccess.read 0xFFFC 4).offset < 0x10000 := by decide
theorem witness_Busy_buffer : let s := pending 0x20000000 [.host (.read 0x1FFFF 1)]
    s.ctl.busy = true ∧ s.agenda = .host (.read 0x1FFFF 1) :: [] ∧ 0x10000 ≤ (HostAccess.read 0x1FFFF 1).offset ∧
      (HostAccess.read 0x1FFFF 1).offset < 0x20000 := by decide
theorem witness_SixtyFour : Reg64.now ∈ [Reg64.now, .fdl, .ful, .rr] ∧ Reg64.lr ∈ [Reg64.dl, .ul, .pt, .lt, .lr] := by decide
theorem regAt_regOffset (r : Reg) : regAt (regOffset r) ≠ none := by
  cases r with
  | pPoly u => revert u; decide
  | pLen u => revert u; decide
  | pCur u => revert u; decide
  | pReg u => revert u; decide
  | lo q => cases q <;> decide
  | hi q => cases q <;> decide
  | _ => decide
theorem witness_Unassigned : let s := doing [.host (.read 0x01C 4)]
    0x01C < 0x10000 ∧ 0x01C % 4 = 0 ∧ (∀ r, regOffset r ≠ 0x01C) ∧ s.agenda = .host (.read 0x01C 4) :: [] := by
  refine ⟨by decide, by decide, fun r h => regAt_regOffset r ?_, rfl⟩
  rw [h]
  decide
theorem witness_PendingBits : let s := doing [.host (.write 0x014 4 0x3F)]
    step s = .next (stepped s) ∧ ∀ o w v rest, s.agenda = .host (.write o w v) :: rest → o ≠ 0x010 ∧ o ≠ 0x018 := by
  refine ⟨step_stepped (by decide), fun o w v rest h => ?_⟩
  simp only [doing, List.cons.injEq, Event.host.injEq, HostAccess.write.injEq] at h
  omega
theorem witness_PendingBits_ack : (doing [.host (.write 0x010 4 0x3F)]).agenda = .host (.write 0x010 4 0x3F) :: [] := by decide
theorem witness_SoftReset : (doing [.host (.write 0x018 4 1)]).agenda = .host (.write 0x018 4 1) :: [] ∧ (1 : Word).getLsbD 0 = true ∧
    (0xFFFFFFFE : Word).getLsbD 0 = false := by decide
theorem witness_Lfsr : ((1 : BitVec 2), 14, 15) ∈ [((0 : BitVec 2), 6, 7), (1, 14, 15), (2, 18, 23), (3, 28, 31)] := by decide
theorem witness_Pcfg : 1 < 2 ∧ 3 < 4 ∧ (args State.reset 0 0 0 0).a0 = 0 ∧ (args State.reset 0xFFFFFFFF 0 0 0).a0 ≠ 0 := by decide
/-- 95_test_vectors.md PV3: the last byte of BUF, one bit too far, and no bits at any address. -/
theorem witness_Pgen : (State.reset.prbs 1).len = 0 ∧ ((args (units 20) 0xFFFF 8 0 0).prbs 1).len ≠ 0 ∧
    inBounds (args (units 20) 0xFFFF 8 0 0).a0 (((args (units 20) 0xFFFF 8 0 0).a1 + 7) / 8) = true ∧
    inBounds (args (units 20) 0xFFFF 9 0 0).a0 (((args (units 20) 0xFFFF 9 0 0).a1 + 7) / 8) = false := by decide
theorem witness_Pgen_noBits : (args (units 20) 0xFFFFFFFF 0 0 0).a0 = 0xFFFFFFFF ∧ (args (units 20) 0xFFFFFFFF 0 0 0).a1 = 0 ∧
    inBounds 0xFFFFFFFF ((0 + 7) / 8) = true := by decide
/-- 95_test_vectors.md PV3: PSEQ exactly fits, one byte over, and the two bad lengths. -/
theorem witness_Pseq : let s := args (units 20) 0xFFFA 0 16 0
    let t := args (units 20) 0xFFFB 0 16 0
    (s.prbs 1).len ≠ 0 ∧ s.a2 ≠ 0 ∧ s.a2 % 8 = 0 ∧ inBounds s.a0 (4 + s.a2 / 8) = true ∧ (t.prbs 1).len ≠ 0 ∧ t.a2 ≠ 0 ∧ t.a2 % 8 = 0 ∧
    inBounds t.a0 (4 + t.a2 / 8) = false ∧ (args (units 20) 0 0 12 0).a2 % 8 ≠ 0 ∧ (args (units 20) 0 0 0 0).a2 = 0 := by decide
theorem witness_PgenIsContinuous : let s := args (units 20) 0 16 0 0
    let t := ran (.pgen 0) s
    let p := args t 8 12 0 0
    let v := ran (.pgen 0) p
    let q := args (units 20) 16 28 0 0
    let w := ran (.pgen 0) q
    (s.prbs 0).len ≠ 0 ∧ p.prbs 0 = t.prbs 0 ∧ q.prbs 0 = s.prbs 0 ∧ s.a1 + p.a1 = q.a1 ∧ exec (.pgen 0) s = .next t ∧ codeOf t = 0 ∧
    exec (.pgen 0) p = .next v ∧ codeOf v = 0 ∧ exec (.pgen 0) q = .next w ∧ codeOf w = 0 ∧ s.a1 % 8 = 0 :=
  ⟨by decide, rfl, rfl, by decide, exec_ran _ _, by decide, exec_ran _ _, by decide +kernel, exec_ran _ _, by decide, by decide⟩
theorem witness_Golay : (0x000 : BitVec 12) ≠ 0x001 ∧ popcount (0x101020 : BitVec 24) ≤ 3 ∧ popcount (0xF00000 : BitVec 24) = 4 := by decide
theorem witness_Syndrome : popcount (0x101020 : BitVec 24) ≤ 3 ∧ golaySyn 0x101020 = golaySyn 0x101020 := by decide
theorem witness_Gdec_near : let s := { State.reset with ctl := { Ctl.reset with snap := { Ctl.reset.snap with gCin := 0x02267F } } }
    popcount (s.ctl.snap.gCin ^^^ golayEnc 0x123) ≤ 3 := by decide
theorem popcount_append (a b : BitVec 12) : popcount (w := 12 + 12) (a ++ b) = popcount b + popcount a := by
  have h : List.range 24 = List.range 12 ++ (List.range 12).map (12 + ·) := by decide
  simp only [popcount, Nat.reduceAdd]
  rw [h, List.countP_append, List.countP_map]
  congr 1 <;> refine List.countP_congr fun i hi => ?_
  · rw [BitVec.getLsbD_append, if_pos (List.mem_range.1 hi)]
  · rw [Function.comp, BitVec.getLsbD_append, if_neg (by omega), Nat.add_sub_cancel_left]
theorem popcount_eq_sum (d : BitVec 12) : popcount d = d.toNat % 2 + d.toNat / 2 % 2 + d.toNat / 4 % 2 + d.toNat / 8 % 2 + d.toNat / 16 % 2 +
    d.toNat / 32 % 2 + d.toNat / 64 % 2 + d.toNat / 128 % 2 + d.toNat / 256 % 2 + d.toNat / 512 % 2 + d.toNat / 1024 % 2 + d.toNat / 2048 % 2 := by
  have h (x : Nat) : (if x % 2 = 1 then 1 else 0) = x % 2 := by split <;> omega
  rw [popcount, show List.range 12 = [0, 1, 2, 3, 4, 5, 6, 7, 8, 9, 10, 11] by decide]
  simp only [List.countP_cons, List.countP_nil, BitVec.getLsbD, Nat.testBit_eq_decide_div_mod_eq, decide_eq_true_eq, h]
  simp
  omega
/-- 95_test_vectors.md G2: 0x00000F is at distance 4 from the nearest codeword. -/
theorem witness_Gdec_far : let s := { State.reset with ctl := { Ctl.reset with snap := { Ctl.reset.snap with gCin := 0x00000F } } }
    ∀ d : BitVec 12, 3 < popcount (s.ctl.snap.gCin ^^^ golayEnc d) := by
  intro s d
  have h : (List.range 4096).all (fun n => Nat.ble 4 (n % 2 + n / 2 % 2 + n / 4 % 2 + n / 8 % 2 + n / 16 % 2 + n / 32 % 2 + n / 64 % 2 +
      n / 128 % 2 + n / 256 % 2 + n / 512 % 2 + n / 1024 % 2 + n / 2048 % 2) ||
      Nat.ble 4 (popcount (0x00F#12 ^^^ golayPar (BitVec.ofNat 12 n)) + popcount (BitVec.ofNat 12 n))) = true := by decide +kernel
  have hd := List.all_eq_true.1 h d.toNat (List.mem_range.2 d.isLt)
  have hx : (0x00000F : BitVec 24) ^^^ golayEnc d = d ++ (0x00F#12 ^^^ golayPar d) := by
    rw [show (0x00000F : BitVec 24) = 0x000#12 ++ 0x00F#12 by decide, golayEnc, BitVec.xor_append, BitVec.zero_xor]
  have hp := popcount_append d (0x00F#12 ^^^ golayPar d)
  rw [Bool.or_eq_true, Nat.ble_eq, Nat.ble_eq, ← popcount_eq_sum, BitVec.ofNat_toNat, BitVec.setWidth_eq] at hd
  show 3 < popcount ((0x00000F : BitVec 24) ^^^ golayEnc d)
  rw [hx]
  omega
/-- 95_test_vectors.md G3: output exactly fits, one byte over, and a payload of 4 bytes. -/
theorem witness_Gencf : (args State.reset 0 4 0 0).a1 % 3 ≠ 0 ∧ (args State.reset 0 3 0xFFF2 0).a1 % 3 = 0 ∧ inBounds 0 3 = true ∧
    inBounds 0xFFF2 (8 + 2 * 3) = true ∧ inBounds 0xFFF3 (8 + 2 * 3) = false ∧ inBounds 0xFFFFFFFF 0 = true := by decide
/-- 95_test_vectors.md G3: too short, a partial block, output fits, output one byte over. -/
theorem witness_Gdecf : (args State.reset 0 7 0 0).a1 < 8 ∧ ((args State.reset 0 10 0 0).a1 - 8) % 3 ≠ 0 ∧ 8 ≤ (args State.reset 0 11 0 0).a1 ∧
    ((args State.reset 0 11 0 0).a1 - 8) % 3 = 0 ∧ inBounds 0 11 = true ∧ inBounds 0xFFF6 (8 + (12 * ((11 - 8) / 3) + 7) / 8) = true ∧
    inBounds 0xFFF7 (8 + (12 * ((11 - 8) / 3) + 7) / 8) = false := by decide
theorem witness_FramedPayload : let s := args (State.reset.store 0 [0x12, 0x34, 0x56]) 0 3 64 0
    let t := ran .gencf s
    let u := { t with ctl := { t.ctl with snap := { t.ctl.snap with arg0 := 64, arg1 := 14, arg2 := 128 } } }
    exec .gencf s = .next t ∧ codeOf t = 0 ∧ (64 : Word).toNat = s.a2 ∧ (14 : Word).toNat = 8 + 2 * s.a1 ∧ exec .gdecf u = .next (ran .gdecf u) ∧
    codeOf (ran .gdecf u) = 0 :=
  ⟨exec_ran _ _, by decide, by decide, by decide, exec_ran _ _, by decide +kernel⟩
theorem witness_Vcfg : (args State.reset 65537 16 0 0).a0 > 65536 ∧ (args State.reset 4 12 0 0).a1 % 8 ≠ 0 ∧ (args State.reset 65536 8 0 0).a0 ≠ 0 ∧
    (args State.reset 65536 8 0 0).a0 ≤ 65536 ∧ (args State.reset 65536 8 0 0).a1 ≠ 0 ∧ (args State.reset 65536 8 0 0).a1 % 8 = 0 := by decide
theorem witness_Vseen : State.reset.ver.expect = 0 ∧ (verifier []).ver.expect ≠ 0 := by decide
theorem witness_Vpkt_errors : let s := args (verifier []) 0xFFFB 6 0 0
    State.reset.ver.plen.toNat % 8 = 0 ∧ State.reset.ver.expect = 0 ∧ s.ver.plen.toNat % 8 = 0 ∧ s.ver.expect ≠ 0 ∧ s.prbs1.len ≠ 0 ∧
    inBounds s.a0 s.a1 = false := by decide
/-- 95_test_vectors.md V1: a packet of 0 bytes at any address has the wrong length. -/
theorem witness_Vpkt_length : let s := args (verifier []) 0xFFFFFFFF 0 0 0
    s.ver.plen.toNat % 8 = 0 ∧ s.ver.expect ≠ 0 ∧ s.prbs1.len ≠ 0 ∧ inBounds s.a0 s.a1 = true ∧ ¬ s.a1 = s.ver.plen.toNat / 8 + 4 := by decide
/-- The premises on a packet of the right length at address 0, and whether its payload and index are right. -/
def packetIs (packet : List Byte) (payload expected : Bool) : Prop :=
  let s := args (verifier packet) 0 6 0 0
  s.ver.plen.toNat % 8 = 0 ∧ s.ver.expect ≠ 0 ∧ s.prbs1.len ≠ 0 ∧ inBounds s.a0 s.a1 = true ∧ s.a1 = s.ver.plen.toNat / 8 + 4 ∧
    decide (∀ i < s.ver.plen.toNat, bitAt s (s.a0 + 4) i =
      prbsBit s.prbs1.poly ((s.buf.read s.a0 4 * s.ver.plen.toNat + i) % s.prbs1.len.toNat)) = payload ∧
    decide (s.buf.read s.a0 4 < s.ver.expect.toNat) = expected
theorem witness_Vpkt_correct : packetIs [3, 0, 0, 0, 0x7D, 0x0E] true true := by unfold packetIs; decide +kernel
theorem witness_Vpkt_mismatch : packetIs [2, 0, 0, 0, 0x2C, 0xEB] false true := by unfold packetIs; decide +kernel
theorem witness_Vpkt_outOfRange : packetIs [4, 0, 0, 0, 0x24, 0xDA] true false := by unfold packetIs; decide +kernel
theorem witness_Vfin : let s := verifier []
    s.ver.expect.toNat ≤ 65536 ∧ s.ver.expect.toNat ≠ 0 ∧ s.ver.vfinal = false ∧ (ran .vfin s).ver.expect.toNat ≤ 65536 ∧
    (ran .vfin s).ver.expect.toNat ≠ 0 ∧ (ran .vfin s).ver.vfinal = true := by decide
theorem witness_DeliveryOrder : keysRise (verifier []).ver.vcnt ∧ [((0 : Word), (6 : Word)), (6, 6)].Perm [(6, 6), (0, 6)] := by decide
theorem witness_Finalized : exec .vfin (verifier []) = .next (ran .vfin (verifier [])) ∧ codeOf (ran .vfin (verifier [])) = 0 :=
  ⟨exec_ran _ _, by decide⟩
theorem witness_SecondDelivery : let s := args (verifier [1, 0, 0, 0, 0x28, 0xF2]) 0 6 0 0
    let t := ran .vpkt s
    let u := ran .vpkt t
    s.ver.expect.toNat ≤ 65536 ∧ s.ver.vfinal = false ∧ (∑ i ∈ Finset.range s.ver.expect.toNat, (s.ver.count i).toNat) + 2 < 2 ^ 32 ∧
    exec .vpkt s = .next t ∧ codeOf t = 0 ∧ t.ctl.res0 = 0 ∧ exec .vpkt t = .next u ∧ exec .vfin t = .next (ran .vfin t) ∧
    exec .vfin u = .next (ran .vfin u) :=
  ⟨by decide, by decide, by decide, exec_ran _ _, by decide +kernel, by decide +kernel, exec_ran _ _, exec_ran _ _, exec_ran _ _⟩
theorem witness_VerifierAccepts : let s := args (verifier []) 0 3 16 0
    exec (.pseq 0) s = .next (ran (.pseq 0) s) ∧ codeOf (ran (.pseq 0) s) = 0 ∧ s.prbs1.poly = s.prbs0.poly ∧ s.prbs1.len = s.prbs0.len ∧
    s.ver.plen = s.ctl.snap.arg2 ∧ s.a1 < s.ver.expect.toNat ∧ (0 : Word).toNat = s.a0 ∧ (6 : Word).toNat = 4 + s.a2 / 8 :=
  ⟨exec_ran _ _, by decide, by decide, by decide, by decide, by decide, by decide, by decide⟩
theorem witness_Dinterp : let s := args (table [⟨100, -7⟩, ⟨200, 7⟩]) 0 2 0xFFD0 2
    s.a3 ≠ 0 ∧ inBounds s.a0 (16 * s.a1) = true ∧ inBounds s.a2 (16 * ((s.a1 - 1) * s.a3 + 1)) = true ∧
    ∀ k, k + 1 < s.a1 → (sampleAt s.buf s.a0 k).t < (sampleAt s.buf s.a0 (k + 1)).t := by
  refine ⟨by decide, by decide, by decide, fun k hk => ?_⟩
  obtain rfl : k = 0 := by
    have : (2 : Nat) = (args (table [⟨100, -7⟩, ⟨200, 7⟩]) 0 2 0xFFD0 2).a1 := rfl
    omega
  decide +kernel
theorem witness_Dinterp_errors : let s := args (table [⟨100, -7⟩, ⟨100, 7⟩]) 0 2 0xFFD0 2
    (args (table []) 0 2 0 0).a3 = 0 ∧ inBounds 0xFFD1 (16 * ((s.a1 - 1) * s.a3 + 1)) = false ∧ s.a3 ≠ 0 ∧ inBounds s.a0 (16 * s.a1) = true ∧
    inBounds s.a2 (16 * ((s.a1 - 1) * s.a3 + 1)) = true ∧
    ¬ ∀ k, k + 1 < s.a1 → (sampleAt s.buf s.a0 k).t < (sampleAt s.buf s.a0 (k + 1)).t :=
  ⟨by decide, by decide, by decide, by decide, by decide, fun h => absurd (h 0 (by decide)) (by decide +kernel)⟩
theorem witness_SchedulerEvaluation : running.dop.idx.toNat ≤ running.dop.cnt.toNat ∧ running.dop.drun = true := by decide +kernel
/-- 95_test_vectors.md DV4: the last record of BUF, one byte over, a run already active, an empty plan. -/
theorem witness_Dstart : inBounds (args State.reset 0xFFF0 1 0 0).a0 (16 * (args State.reset 0xFFF0 1 0 0).a1) = true ∧
    State.reset.dop.drun = false ∧ (args State.reset 0xFFF0 1 0 0).a1 ≠ 0 ∧ inBounds 0xFFF1 (16 * 1) = false ∧
    (inBounds running.a0 (16 * running.a1) = true ∧ running.dop.drun = true) ∧ (args State.reset 0 0 0 0).a1 = 0 := by decide +kernel
theorem tick_is_no_engine_step (w : Word) : ¬ engineSteps (pending w [.tick]) := by
  rintro ⟨-, h | ⟨rest, h⟩ | ⟨a, rest, h, -⟩⟩ <;> cases h
/-- No run is active, and the step is a tick while a DSTART is pending. -/
theorem witness_Stopped : let s := pending 0x42000000 [.tick]
    s.dop.drun = false ∧ step s = .next (stepped s) ∧ ¬ (engineSteps s ∧ decode s.ctl.cmd = .ok .dstart) :=
  ⟨rfl, step_stepped (by decide), fun h => tick_is_no_engine_step _ h.1⟩
theorem witness_OnlyThree : Instr.dstop ≠ .dstart ∧ exec .dstop running = .next (ran .dstop running) := ⟨by decide, exec_ran _ _⟩
theorem witness_OnlyThree_host : ∃ t, hostStep (.write 0x100 4 5) running = .next t ∧
    ∀ w v, HostAccess.write 0x100 4 5 ≠ .write 0x104 w v ∧ HostAccess.write 0x100 4 5 ≠ .write 0x018 w v :=
  ⟨_, rfl, fun _ _ => ⟨by simp, by simp⟩⟩
theorem witness_Tick : let s := { running with agenda := [.tick] }
    s.agenda = .tick :: [] ∧ s.dop.idx.toNat ≤ s.dop.cnt.toNat := by decide +kernel
/-- The premises on a run waiting for sample `i` at a time. -/
def waitsAt (i now : Nat) : Prop :=
  let s := { running with dop := { running.dop with now := BitVec.ofNat 64 now, idx := BitVec.ofNat 32 i } }
  s.dop.drun = true ∧ s.dop.phase = .wait ∧ s.dop.now < s.dop.lt ∧ s.dop.now.toNat + 10 < 2 ^ 64 ∧ s.dop.idx.toNat < s.dop.cnt.toNat ∧
    (s.dop.idx.toNat + 1 < s.dop.cnt.toNat → s.dop.lt.toNat + 10 ≤ (sampleAt s.buf s.dop.base.toNat (s.dop.idx.toNat + 1)).t)
theorem witness_WellSpaced_reached : waitsAt 0 90 ∧ running.dop.lt.toNat ≤ 90 + 10 ∧ 0 + 1 < running.dop.cnt.toNat := by unfold waitsAt; decide +kernel
theorem witness_WellSpaced_last : waitsAt 2 90 ∧ running.dop.lt.toNat ≤ 90 + 10 ∧ 2 + 1 = running.dop.cnt.toNat := by unfold waitsAt; decide +kernel
theorem witness_WellSpaced_waits : waitsAt 0 89 ∧ 89 + 10 < running.dop.lt.toNat := by unfold waitsAt; decide +kernel
/-- A run that waits for sample 0 at its time, so that its evaluation publishes. -/
theorem witness_Publishes : let s := { running with dop := { running.dop with now := 100 } }
    s.dop.idx.toNat ≤ s.dop.cnt.toNat ∧ (schedEval s).dop.idx = 1 ∧ (schedEval s).dop.drun = true := by decide +kernel
theorem witness_Registers : let s := doing [.host (.read (regOffset (.pLen 1)) 4)]
    s.agenda = .host (.read (regOffset (.pLen 1)) 4) :: [] ∧ (0x0A4, s.prbs1.len) ∈ mapReads s ∧ s.agenda = .host (.read 0x0A4 4) :: [] ∧
    (∀ q, Reg.pLen 1 ≠ .lo q) ∧ Reg.pLen 1 ∈ readOnlyRegs := by
  refine ⟨rfl, by decide, rfl, fun q h => ?_, by decide⟩
  cases h
theorem witness_Registers_write : (doing [.host (.write (regOffset .irqEn) 4 0xFFFFFFFF)]).agenda = .host (.write (regOffset .irqEn) 4 0xFFFFFFFF) :: [] := by
  decide
theorem witness_EveryStep : (doing [.tick]).Inv ∧ step (doing [.tick]) = .next (stepped (doing [.tick])) :=
  ⟨⟨by decide, by decide, by decide, by decide, by decide, by decide, by decide, by decide⟩, step_stepped (by decide)⟩
theorem witness_Stops : (doing [.host (.read 0x1FFFF 1), .tick]).agendaInside = true ∧ 0x20000 ≤ (HostAccess.read 0x20000 4).offset ∧
    (doing [.host (.read 0x20000 4)]).agenda = .host (.read 0x20000 4) :: [] := by decide

end Sys2Proof.Tests
end

/-! ## What one step of the machine can be (60_exceptions.md R256, 20_memory.md R81-R91), said once by inversion -/

namespace Sys2Proof.Machine

/-- The register at an offset stands at that offset. -/
theorem regOffset_of_regAt {o : Nat} {r : Reg} (h : regAt o = some r) : regOffset r = o := by
  simpa using List.find?_some h

/-- R61: at an offset at which no register stands the map finds none. -/
theorem regAt_eq_none {o : Nat} (h : ∀ r, regOffset r ≠ o) : regAt o = none := by
  simp [regAt, List.find?_eq_none, h]

/-- R81: an offset below 0x10000 is in register space. -/
theorem route_register {o : Nat} (h : o < 0x10000) : route o = .reg o := if_pos h

/-- R83: a register access is never held. -/
theorem holds_register {s : State} {a : HostAccess} (h : a.offset < 0x10000) : s.holds a = false := by
  simp [State.holds, route_register h]

/-- R256: a step with a host access next that is not held is that access taking effect. -/
theorem step_host {s : State} {a : HostAccess} {rest : List Event} (ha : s.agenda = .host a :: rest) (hh : s.holds a = false) :
    step s = hostStep a { s with agenda := rest } := by
  simp [step, agendaStep, ha, hostTurn, hh]

/-- R81, R87: an aligned word read in register space, next in the agenda. -/
theorem step_read_register {s : State} {rest : List Event} {o : Nat} (ha : s.agenda = .host (.read o 4) :: rest) (ho : o < 0x10000) :
    step s = .next (regReadStep o 4 { s with agenda := rest }) := by
  rw [step_host ha (holds_register ho), hostStep, route_register ho]

/-- R81, R87: an aligned word write in register space, next in the agenda. -/
theorem step_write_register {s : State} {rest : List Event} {o : Nat} {v : Word} (ha : s.agenda = .host (.write o 4 v) :: rest)
    (ho : o < 0x10000) : step s = .next (regWriteStep o 4 v { s with agenda := rest }) := by
  rw [step_host ha (holds_register ho), hostStep, route_register ho]

/-- R61, R87: an aligned word write at an offset where a register stands does that register's write. -/
theorem regWriteStep_of_regAt {o : Nat} {r : Reg} (hr : regAt o = some r) (ho : o % 4 = 0) (v : Word) (s : State) :
    regWriteStep o 4 v s = (writeReg s r v).respond 0 := by
  simp [regWriteStep, regAccessOk, ho, hr]

/-- R61: an aligned word read at an unassigned offset only answers 0. -/
theorem regReadStep_unassigned {o : Nat} (hr : regAt o = none) (ho : o % 4 = 0) (s : State) : regReadStep o 4 s = s.respond 0 := by
  simp [regReadStep, regAccessOk, ho, hr]

/-- R61: an aligned word write at an unassigned offset only answers. -/
theorem regWriteStep_unassigned {o : Nat} (hr : regAt o = none) (ho : o % 4 = 0) (v : Word) (s : State) :
    regWriteStep o 4 v s = s.respond 0 := by
  simp [regWriteStep, regAccessOk, ho, hr]

/-- R61, R87, R96: what a host read in register space does to the state. -/
theorem regReadStep_cases (o w : Nat) (s : State) :
    regReadStep o w s = s.busError ∨ (∃ d, regReadStep o w s = s.respond d) ∨ ∃ r d, regReadStep o w s = (afterRead s r).respond d := by
  unfold regReadStep
  split
  · exact .inl rfl
  · split
    · exact .inr (.inl ⟨_, rfl⟩)
    · exact .inr (.inr ⟨_, _, rfl⟩)

/-- R61, R87: what a host write in register space does to the state. -/
theorem regWriteStep_cases (o w : Nat) (v : Word) (s : State) :
    regWriteStep o w v s = s.busError ∨ regWriteStep o w v s = s.respond 0 ∨
      ∃ r, regOffset r = o ∧ regWriteStep o w v s = (writeReg s r v).respond 0 := by
  unfold regWriteStep
  split
  · exact .inl rfl
  · split
    · exact .inr (.inl rfl)
    · exact .inr (.inr ⟨_, regOffset_of_regAt ‹_›, rfl⟩)

/-- R81, R82: what a host read of BUF does to the state. -/
theorem bufReadStep_cases (a w : Nat) (s : State) : bufReadStep a w s = s.busError ∨ ∃ d, bufReadStep a w s = s.respond d := by
  unfold bufReadStep
  split
  · exact .inl rfl
  · exact .inr ⟨_, rfl⟩

/-- R81, R82: what a host write of BUF does to the state. -/
theorem bufWriteStep_cases (a w : Nat) (v : Word) (s : State) :
    bufWriteStep a w v s = s.busError ∨
      (inBounds a w = true ∧ bufWriteStep a w v s = (s.store a (leBytes w v.toNat)).respond 0) := by
  unfold bufWriteStep
  split
  · exact .inl rfl
  · rename_i hok
    simp only [bufAccessOk, Bool.not_eq_false, Bool.and_eq_true, decide_eq_true_eq] at hok
    exact .inr ⟨(inBounds_iff a w).2 (.inr hok.2), rfl⟩

/-- R81-R91: what a host access that takes effect does to the state. -/
inductive HostEffect (s : State) : HostAccess → State → Prop where
  /-- R245: a bus error. -/
  | busError (a : HostAccess) : HostEffect s a s.busError
  /-- A read of BUF, or an access at an unassigned offset. -/
  | answered (a : HostAccess) (d : Word) : HostEffect s a (s.respond d)
  /-- R96: a read of a register. -/
  | readReg (a : HostAccess) (r : Reg) (d : Word) : HostEffect s a ((afterRead s r).respond d)
  /-- A write of the register at the access's offset. -/
  | writeReg (r : Reg) (w : Nat) (v : Word) : HostEffect s (.write (regOffset r) w v) ((Machine.writeReg s r v).respond 0)
  /-- A write of BUF. -/
  | store (o a w : Nat) (v : Word) (hb : inBounds a w = true) :
      HostEffect s (.write o w v) ((s.store a (leBytes w v.toNat)).respond 0)

theorem hostEffect_of_hostStep {a : HostAccess} {s t : State} (h : hostStep a s = .next t) : HostEffect s a t := by
  cases a with
  | read o w =>
    simp only [hostStep] at h
    split at h
    · cases h
      obtain h | ⟨d, h⟩ | ⟨r, d, h⟩ := regReadStep_cases _ w s <;> rw [h]
      · exact .busError _
      · exact .answered _ d
      · exact .readReg _ r d
    · cases h
      obtain h | ⟨d, h⟩ := bufReadStep_cases _ w s <;> rw [h]
      · exact .busError _
      · exact .answered _ d
    · cases h
  | write o w v =>
    simp only [hostStep] at h
    split at h
    · rename_i o' hroute
      cases h
      have ho : o' = o := by
        unfold route at hroute
        split at hroute
        · cases hroute; rfl
        · split at hroute <;> cases hroute
      subst ho
      obtain h | h | ⟨r, rfl, h⟩ := regWriteStep_cases o' w v s <;> rw [h]
      · exact .busError _
      · exact .answered _ 0
      · exact .writeReg r w v
    · cases h
      obtain h | ⟨hb, h⟩ := bufWriteStep_cases _ w v s <;> rw [h]
      · exact .busError _
      · exact .store o _ w v hb
    · cases h

/-- R231, R243: what the engine's execution of the pending word can be. -/
theorem engineStep_next_cases {s t : State} (h : engineStep s = .next t) :
    (∃ i r, ruleOf i s = .ok r ∧ t = r.complete none) ∨ ∃ e, t = s.complete (some e) := by
  unfold engineStep at h
  split at h
  · obtain ⟨r, hr, ht⟩ | ⟨e, -, ht⟩ := exec_next_cases h
    · exact .inl ⟨_, r, hr, ht⟩
    · exact .inr ⟨e, ht⟩
  · cases h
    exact .inr ⟨_, rfl⟩

/-- R256: what a step can be, `rest` being the agenda it leaves: nothing (log 3), a tick, the engine's execution, or the access that stood first. -/
theorem step_next_cases {s t : State} (h : step s = .next t) : ∃ rest,
    t = { s with agenda := rest } ∨ t = tickStep { s with agenda := rest } ∨ engineStep { s with agenda := rest } = .next t ∨
      ∃ a, s.agenda = .host a :: rest ∧ HostEffect { s with agenda := rest } a t := by
  simp only [step, agendaStep] at h
  split at h
  · refine ⟨s.agenda, ?_⟩
    unfold idleStep at h
    split at h
    · exact .inr (.inr (.inl h))
    · cases h; exact .inr (.inl rfl)
  · rename_i rest hag
    cases h; exact ⟨rest, .inr (.inl rfl)⟩
  · rename_i rest hag
    refine ⟨rest, ?_⟩
    unfold engineTurn at h
    split at h
    · exact .inr (.inr (.inl h))
    · cases h; exact .inl rfl
  · rename_i a rest hag
    unfold hostTurn at h
    split at h
    · exact ⟨s.agenda, .inr (.inr (.inl h))⟩
    · exact ⟨rest, .inr (.inr (.inr ⟨a, hag, hostEffect_of_hostStep h⟩))⟩

end Sys2Proof.Machine

/-! ## The reset state and STATUS (10_state.md R34, R69, R70) -/

namespace Sys2Proof.Machine

/-- R70: both PRBS units are unconfigured after reset. -/
theorem reset_prbs (u : Nat) : State.reset.prbs u = PrbsUnit.reset := ite_self _

/-- R70: every 64-bit register is 0 after reset. -/
theorem reset_get64 (r : Reg64) : State.reset.get64 r = 0 := by cases r <;> rfl

/-- R70: every read shadow is 0 after reset. -/
theorem reset_readShadow (r : Reg64) : State.reset.readShadow r = 0 := by cases r <;> rfl

/-- R70: every register but `ID` reads 0 after reset. -/
theorem readReg_reset {r : Reg} (h : r ≠ .id) : readReg State.reset r = 0 := by
  cases r with
  | id => exact absurd rfl h
  | pPoly u | pLen u | pCur u | pReg u => rw [readReg, reset_prbs]; rfl
  | lo q => rw [readReg, reset_get64]; rfl
  | hi q => exact reset_readShadow q
  | status => decide
  | _ => rfl

/-- A bit of a 6-bit word that is set is one of its six bits. -/
theorem exists_getLsbD_of_ne_zero {x : BitVec 6} (h : x ≠ 0) : ∃ b ∈ List.range 6, x.getLsbD b = true := by
  by_contra hnone
  refine h (BitVec.eq_of_getLsbD_eq fun b hb => ?_)
  have hclear : x.getLsbD b ≠ true := fun hset => hnone ⟨b, List.mem_range.2 hb, hset⟩
  simpa using hclear

/-- R69: the interrupt output is high exactly when some bit is both pending and enabled. -/
theorem irqLevel_eq_any (s : State) :
    irqLevel s = (List.range 6).any fun b => s.ctl.irqPend.getLsbD b && s.ctl.irqEn.getLsbD b := by
  simp only [← BitVec.getLsbD_and]
  rw [Bool.eq_iff_iff, irqLevel, decide_eq_true_iff, List.any_eq_true]
  constructor
  · exact exists_getLsbD_of_ne_zero
  · rintro ⟨b, -, hb⟩ h
    simp [h] at hb

/-- R34: the bits of `STATUS` from bit 0 up; every bit above them reads 0. -/
def statusBits (s : State) : List Bool :=
  [s.ctl.busy, s.dop.drun, s.ver.vfinal, decide (s.prbs0.len ≠ 0), decide (s.prbs1.len ≠ 0), decide (s.ver.expect ≠ 0), irqLevel s]

/-- One bit put below a word whose bits a list gives: the word's list with the new bit in front. -/
theorem getLsbD_append_ofBool {w : Nat} {x : BitVec w} {l : List Bool} (hx : ∀ b, x.getLsbD b = l.getD b false) (y : Bool) (b : Nat) :
    (x ++ BitVec.ofBool y).getLsbD b = (y :: l).getD b false := by
  rw [BitVec.getLsbD_append]
  cases b with
  | zero => simp
  | succ b => simpa using hx b

/-- R34: `STATUS` lists the views, bit by bit. -/
theorem statusWord_getLsbD (s : State) (b : Nat) : (statusWord s).getLsbD b = (statusBits s).getD b false := by
  have hreserved (b : Nat) : (0#25).getLsbD b = ([] : List Bool).getD b false := BitVec.getLsbD_zero
  have hirq := getLsbD_append_ofBool hreserved (irqLevel s)
  have hexpect := getLsbD_append_ofBool hirq (decide (s.ver.expect ≠ 0))
  have hlen1 := getLsbD_append_ofBool hexpect (decide (s.prbs1.len ≠ 0))
  have hlen0 := getLsbD_append_ofBool hlen1 (decide (s.prbs0.len ≠ 0))
  have hfinal := getLsbD_append_ofBool hlen0 s.ver.vfinal
  have hrun := getLsbD_append_ofBool hfinal s.dop.drun
  exact getLsbD_append_ofBool hrun s.ctl.busy b

/-- Settles O57: each clause of the invariant is a small fact about the reset values (10_state.md R70). -/
theorem resetSatisfiesTheInvariant : Obligations.ResetSatisfiesTheInvariant := by
  unfold Obligations.ResetSatisfiesTheInvariant
  exact ⟨reset_mem_wf, by decide, by decide, by decide, by decide, by decide, by decide, by decide⟩

/-- Settles O24, from the reading of each register at reset. -/
theorem resetLeavesTheTableValues : Obligations.ResetLeavesTheTableValues := by
  unfold Obligations.ResetLeavesTheTableValues
  exact ⟨rfl, fun _ => readReg_reset, rfl, rfl, rfl, fun _ => rfl, rfl, rfl, rfl, fun r => ⟨reset_get64 r, reset_readShadow r⟩, rfl,
    by decide, rfl⟩

/-- Settles O22, from `STATUS` bit by bit and the interrupt output as the bits both pending and enabled. -/
theorem statusBitsAreViews : Obligations.StatusBitsAreViews := by
  unfold Obligations.StatusBitsAreViews
  intro s
  have hbit (b : Nat) : (readReg s .status).getLsbD b = (statusBits s).getD b false := statusWord_getLsbD s b
  have hhigh (b : Nat) (hb : 7 ≤ b) : (statusBits s).getD b false = false := List.getD_eq_default _ _ hb
  exact ⟨hbit 0, hbit 1, hbit 2, hbit 3, hbit 4, hbit 5, (hbit 6).trans (irqLevel_eq_any s), fun b hb => (hbit b).trans (hhigh b hb),
    readReg_reset (by decide)⟩

/-- Settles O11: no access to register space is held, and offset 0x004 is `CMD`. -/
theorem cmdWriteIsAcceptedOrDropped : Obligations.CmdWriteIsAcceptedOrDropped := by
  unfold Obligations.CmdWriteIsAcceptedOrDropped
  have hwrite {s : State} {rest : List Event} {v : Word} (ha : s.agenda = .host (.write 0x004 4 v) :: rest) :
      step s = .next ((State.writeCmd { s with agenda := rest } v).respond 0) := by
    rw [step_write_register ha (by decide), regWriteStep_of_regAt (r := .cmd) (by decide) (by decide), writeReg]
  refine ⟨fun s rest v ha hbusy => ?_, fun s rest v ha hbusy => ?_, fun _ => rfl, rfl⟩
  · rw [hwrite ha, State.writeCmd, if_neg (by simp [hbusy])]; rfl
  · rw [hwrite ha, State.writeCmd, if_pos hbusy]; rfl

/-- Settles O20: the map finds no register at the offset, so the access is only answered. -/
theorem unassignedOffsetReadsZeroIgnoresWrites : Obligations.UnassignedOffsetReadsZeroIgnoresWrites := by
  unfold Obligations.UnassignedOffsetReadsZeroIgnoresWrites
  intro s rest o v ho halign hnone
  refine ⟨fun ha => ?_, fun ha => ?_⟩
  · rw [step_read_register ha ho, regReadStep_unassigned (regAt_eq_none hnone) halign]; rfl
  · rw [step_write_register ha ho, regWriteStep_unassigned (regAt_eq_none hnone) halign]; rfl

end Sys2Proof.Machine

/-! ## Pending bits stay (10_state.md R36, 60_exceptions.md R248) -/

namespace Sys2Proof.Machine

/-- Every bit of `IRQ_PEND` that is set in `s` is set in `t`. -/
def KeepsPending (s t : State) : Prop := ∀ b, s.ctl.irqPend.getLsbD b = true → t.ctl.irqPend.getLsbD b = true

theorem KeepsPending.of_eq {s t : State} (h : t.ctl.irqPend = s.ctl.irqPend) : KeepsPending s t := fun _ hb => h ▸ hb

theorem KeepsPending.of_or {s t : State} {bits : BitVec 6} (h : t.ctl.irqPend = s.ctl.irqPend ||| bits) : KeepsPending s t := by
  intro b hb
  rw [h, BitVec.getLsbD_or, hb, Bool.true_or]

theorem KeepsPending.trans {s t u : State} (h : KeepsPending s t) (k : KeepsPending t u) : KeepsPending s u := fun b hb => k b (h b hb)

theorem keepsPending_complete (s : State) (e : Option CmdError) : KeepsPending s (s.complete e) := .of_or (State.complete_ctl_irqPend s e)

/-- R214-R216: a scheduler evaluation only adds pending bits. -/
theorem keepsPending_schedLoop (n : Nat) (s : State) : KeepsPending s (schedLoop n s) := by
  induction n generalizing s with
  | zero => exact .of_eq rfl
  | succ n ih =>
    rcases schedLoop_succ_cases n s with ⟨-, h⟩ | ⟨-, -, h⟩ | ⟨-, -, -, h⟩ | ⟨-, -, -, -, h⟩ | ⟨-, -, -, -, h⟩ <;> rw [h]
    · exact .of_eq rfl
    · exact .of_or (State.runDone_ctl_irqPend s)
    · exact .trans (.of_or (State.skip_ctl_irqPend s)) (ih _)
    · have hpub : s.latch.publish.ctl.irqPend = s.ctl.irqPend ||| irqDPub := by rw [State.publish_ctl_irqPend, State.latch_ctl]
      exact .trans (.of_or hpub) (ih _)
    · exact .of_eq (by rw [State.latch_ctl])

/-- R213: an evaluation from a state with the same pending bits only adds to them. -/
theorem keepsPending_schedEval {s u : State} (h : u.ctl.irqPend = s.ctl.irqPend) : KeepsPending s (schedEval u) :=
  (KeepsPending.of_eq h).trans (keepsPending_schedLoop _ u)

theorem keepsPending_tickStep (s : State) : KeepsPending s (tickStep s) := keepsPending_schedEval rfl

/-- A command's rule writes `IRQ_PEND` only through the evaluation that DSTART makes. -/
theorem keepsPending_ruleOf {i : Instr} {s t : State} (h : ruleOf i s = .ok t) : KeepsPending s t := by
  cases i with
  | nop | genc | gdec | dshift | dstop => cases h; exact .of_eq rfl
  | pcfg u sel => obtain ⟨-, -, rfl⟩ := pcfgRule_ok h; exact .of_eq (by simp)
  | pgen u => obtain ⟨-, -, rfl⟩ := pgenRule_ok h; exact .of_eq (by simp)
  | pgeno u => obtain ⟨-, -, rfl⟩ := pgenoRule_ok h; exact .of_eq rfl
  | pseq u => obtain ⟨-, -, -, -, rfl⟩ := pseqRule_ok h; exact .of_eq rfl
  | gencf => obtain ⟨-, -, -, rfl⟩ := gencfRule_ok h; exact .of_eq rfl
  | gdecf => obtain ⟨-, -, -, -, rfl⟩ := gdecfRule_ok h; exact .of_eq rfl
  | vcfg => obtain ⟨-, -, -, -, rfl⟩ := vcfgRule_ok h; exact .of_eq rfl
  | vseen => obtain ⟨-, rfl⟩ := vseenRule_ok h; exact .of_eq rfl
  | vpkt => obtain ⟨-, -, -, rfl⟩ := vpktRule_ok h; exact .of_eq rfl
  | vfin => obtain ⟨-, rfl⟩ := vfinRule_ok h; exact .of_eq rfl
  | dinterp => obtain ⟨-, -, -, -, rfl⟩ := dinterpRule_ok h; exact .of_eq rfl
  | dstart => obtain ⟨-, -, -, rfl⟩ := dstartRule_ok h; exact keepsPending_schedEval rfl

theorem keepsPending_engineStep {s t : State} (h : engineStep s = .next t) : KeepsPending s t := by
  obtain ⟨i, r, hr, rfl⟩ | ⟨e, rfl⟩ := engineStep_next_cases h
  · exact (keepsPending_ruleOf hr).trans (keepsPending_complete r none)
  · exact keepsPending_complete s (some e)

/-- R96: a register read writes nothing of the control block. -/
theorem afterRead_ctl (s : State) (r : Reg) : (afterRead s r).ctl = s.ctl := by
  cases r with
  | lo q => exact State.latchRead_ctl s q _
  | _ => rfl

/-- R53, R88: committing a 64-bit register only adds pending bits, those of the evaluation that a commit of `D_NOW` runs. -/
theorem keepsPending_writeHi (s : State) (q : Reg64) (v : Word) : KeepsPending s (s.writeHi q v) := by
  cases q with
  | now => exact keepsPending_schedEval rfl
  | _ => exact .of_eq rfl

/-- R33, R246: a `CMD` write only adds pending bits. -/
theorem keepsPending_writeCmd (s : State) (v : Word) : KeepsPending s (s.writeCmd v) := by
  unfold State.writeCmd
  split
  · exact .of_or (State.pend_ctl_irqPend s _)
  · exact .of_eq rfl

/-- R36, R38: of the register writes only those of `IRQ_PEND` and `CTRL` can clear a pending bit. -/
theorem keepsPending_writeReg {r : Reg} (hpend : r ≠ .irqPend) (hctrl : r ≠ .ctrl) (s : State) (v : Word) :
    KeepsPending s (writeReg s r v) := by
  cases r with
  | irqPend => exact absurd rfl hpend
  | ctrl => exact absurd rfl hctrl
  | cmd => exact keepsPending_writeCmd s v
  | lo q => exact .of_eq (congrArg Ctl.irqPend (State.writeLo_ctl s q v))
  | hi q => exact keepsPending_writeHi s q v
  | _ => exact .of_eq rfl

/-- R248: a host access other than a write to `IRQ_PEND` or `CTRL` clears no pending bit. -/
theorem keepsPending_hostEffect {a : HostAccess} {s t : State} (h : HostEffect s a t)
    (ha : ∀ o w v, a = .write o w v → o ≠ 0x010 ∧ o ≠ 0x018) : KeepsPending s t := by
  cases h with
  | busError => exact .of_eq rfl
  | answered => exact .of_eq rfl
  | readReg _ r d => exact .of_eq (congrArg Ctl.irqPend (afterRead_ctl s r))
  | writeReg r w v =>
    obtain ⟨hpend, hctrl⟩ := ha _ w v rfl
    exact keepsPending_writeReg (fun hr => hpend (congrArg regOffset hr)) (fun hr => hctrl (congrArg regOffset hr)) s v
  | store => exact .of_eq rfl

/-- R36: the bits of `IRQ_PEND` after a host write to it. -/
theorem ackPend_getLsbD (s : State) (v : Word) {b : Nat} (hb : b < 6) :
    (s.ackPend v).ctl.irqPend.getLsbD b = (s.ctl.irqPend.getLsbD b && !v.getLsbD b) := by
  simp [hb]

/-- Settles O21: the engine, the tick and every host access but a write to `IRQ_PEND` or `CTRL` only add pending bits; a write to
`IRQ_PEND` is the register's own acknowledge. -/
theorem pendingBitsStayUntilAcknowledged : Obligations.PendingBitsStayUntilAcknowledged := by
  unfold Obligations.PendingBitsStayUntilAcknowledged
  refine ⟨fun s t hstep hother => ?_, fun s rest v ha => ?_⟩
  · obtain ⟨rest, rfl | rfl | h | ⟨a, hag, h⟩⟩ := step_next_cases hstep
    · exact KeepsPending.of_eq rfl
    · exact keepsPending_tickStep { s with agenda := rest }
    · exact keepsPending_engineStep (s := { s with agenda := rest }) h
    · exact keepsPending_hostEffect (s := { s with agenda := rest }) h fun o w v ha => hother o w v rest (ha ▸ hag)
  · refine ⟨(State.ackPend { s with agenda := rest } v).respond 0, ?_, fun b hb => ackPend_getLsbD { s with agenda := rest } v hb⟩
    rw [step_write_register ha (by decide), regWriteStep_of_regAt (r := .irqPend) (by decide) (by decide), writeReg]

end Sys2Proof.Machine

/-! ## Operand writes and a pending command (10_state.md R62, 70_reset_and_hazards.md R284) -/

namespace Sys2Proof.Machine

/-- The live operand registers and the write shadows: what the host may rewrite while a command is pending (R62, R65). -/
structure Operands where
  arg0 : Word
  arg1 : Word
  arg2 : Word
  arg3 : Word
  gDin : BitVec 12
  gCin : BitVec 24
  gPre : Word
  gPost : Word
  dRr : DWord
  dFdl : DWord
  dFul : DWord
  wsh : WriteShadows

/-- The operands as they stand. -/
def State.operands (s : State) : Operands :=
  { arg0 := s.ctl.arg0, arg1 := s.ctl.arg1, arg2 := s.ctl.arg2, arg3 := s.ctl.arg3, gDin := s.golay.din, gCin := s.golay.cin,
    gPre := s.golay.pre, gPost := s.golay.post, dRr := s.dop.rr, dFdl := s.dop.fdl, dFul := s.dop.ful, wsh := s.wsh }

/-- The state with its operands replaced, and nothing else changed. -/
def State.setOperands (s : State) (o : Operands) : State :=
  { s with
    ctl := { s.ctl with arg0 := o.arg0, arg1 := o.arg1, arg2 := o.arg2, arg3 := o.arg3 }
    golay := { s.golay with din := o.gDin, cin := o.gCin, pre := o.gPre, post := o.gPost }
    dop := { s.dop with rr := o.dRr, fdl := o.dFdl, ful := o.dFul }
    wsh := o.wsh }

theorem State.operands_setOperands (s : State) (o : Operands) : (s.setOperands o).operands = o := rfl

theorem State.setOperands_operands (s : State) : s.setOperands s.operands = s := rfl

/-- The two carrier frequencies, which a publish reads live (R214). -/
def State.carriers (s : State) : DWord × DWord := (s.dop.fdl, s.dop.ful)

/-- The operands after a host write to an operand register. -/
def Operands.write (o : Operands) (r : Reg) (v : Word) : Operands := (writeReg (State.reset.setOperands o) r v).operands

/-- The registers whose writes change operands and nothing else: the listed ones and the committed carrier frequencies. -/
abbrev IsOperandReg (r : Reg) : Prop := r ∈ Claim.operandRegs ∨ r = .hi .fdl ∨ r = .hi .ful

/-- R62, R88: a host write to an operand register replaces operands and changes nothing else. -/
theorem writeReg_operand {r : Reg} (h : IsOperandReg r) (s : State) (v : Word) :
    writeReg s r v = s.setOperands (s.operands.write r v) := by
  simp only [IsOperandReg, Claim.operandRegs, List.mem_cons, List.not_mem_nil, or_false] at h
  rcases h with (rfl | rfl | rfl | rfl | rfl | rfl | rfl | rfl | rfl | rfl | rfl | rfl | rfl) | rfl | rfl <;> rfl

/-- R88: only committing a carrier frequency changes one. -/
theorem carriers_writeReg {r : Reg} (h : r ∈ Claim.operandRegs) (s : State) (v : Word) : (writeReg s r v).carriers = s.carriers := by
  simp only [Claim.operandRegs, List.mem_cons, List.not_mem_nil, or_false] at h
  rcases h with rfl | rfl | rfl | rfl | rfl | rfl | rfl | rfl | rfl | rfl | rfl | rfl | rfl <;> rfl

/-- R212: latching reads no operand. -/
theorem latch_setOperands (s : State) (o : Operands) : (s.setOperands o).latch = s.latch.setOperands o := by
  unfold State.latch
  cases h : s.dop.phase with
  | reach => simp only [State.setOperands, h]; rfl
  | wait => simp only [State.setOperands, h]

/-- R214: of the operands a publish reads the carrier frequencies alone. -/
theorem publish_setOperands {s : State} {o : Operands} (h : (s.setOperands o).carriers = s.carriers) :
    (s.setOperands o).publish = s.publish.setOperands o := by
  obtain ⟨hfdl, hful⟩ := Prod.mk.inj h
  have hdl : (s.setOperands o).latchedDl = s.latchedDl := by unfold State.latchedDl; rw [hfdl]; rfl
  have hul : (s.setOperands o).latchedUl = s.latchedUl := by unfold State.latchedUl; rw [hful]; rfl
  unfold State.publish
  simp only [hdl, hul]
  rfl

/-- R212: of the operands an evaluation reads the carrier frequencies alone. -/
theorem schedLoop_setOperands (n : Nat) {s : State} {o : Operands} (h : (s.setOperands o).carriers = s.carriers) :
    schedLoop n (s.setOperands o) = (schedLoop n s).setOperands o := by
  induction n generalizing s with
  | zero => rfl
  | succ n ih =>
    have hskip : schedLoop n (s.setOperands o).skip = (schedLoop n s.skip).setOperands o := ih (s := s.skip) h
    have hlatch : (s.latch.setOperands o).carriers = s.latch.carriers := by
      simpa [State.carriers, State.setOperands] using h
    have hpublish : schedLoop n (s.setOperands o).latch.publish = (schedLoop n s.latch.publish).setOperands o := by
      rw [latch_setOperands, publish_setOperands hlatch, ih (s := s.latch.publish) hlatch]
    rw [schedLoop_succ, schedLoop_succ, hskip, hpublish, latch_setOperands]
    simp only [apply_ite (State.setOperands · o)]
    rfl

/-- A rule's test, made alike on both sides, commutes with what follows it. -/
theorem map_guard {c : Prop} [Decidable c] {e : CmdError} {f : State → State} {x y : Except CmdError State} (h : y = x.map f) :
    (if c then .error e else y) = (if c then .error e else x : Except CmdError State).map f := by
  split
  · rfl
  · exact h

/-- R48: configuring a PRBS unit reads and writes no operand. -/
theorem setPrbs_setOperands (s : State) (o : Operands) (u : Nat) (p : PrbsUnit) :
    (s.setOperands o).setPrbs u p = (s.setPrbs u p).setOperands o := by
  unfold State.setPrbs
  split <;> rfl

/-- R231: a command's rule reads its operands from the snapshot alone, but for the carrier frequencies, which DSTART's publishes read live. -/
theorem ruleOf_setOperands {i : Instr} {s : State} {o : Operands} (h : i = .dstart → (s.setOperands o).carriers = s.carriers) :
    ruleOf i (s.setOperands o) = (ruleOf i s).map (·.setOperands o) := by
  cases i with
  | nop | genc | dshift | dstop => rfl
  | gdec => simp only [ruleOf, gdecRule, Except.map, State.setOperands]
  | pcfg u sel => exact map_guard (congrArg Except.ok (setPrbs_setOperands s o u _))
  | pgen u =>
    refine map_guard (map_guard (congrArg Except.ok ?_))
    exact congrArg (State.setRes0 · _) (setPrbs_setOperands (s.store _ _) o u _)
  | vseen | vcfg | vfin => exact map_guard rfl
  | pgeno u | gencf | gdecf | vpkt => exact map_guard (map_guard rfl)
  | pseq u | dinterp => exact map_guard (map_guard (map_guard rfl))
  | dstart =>
    have hstart : ((s.startRun s.ctl.snap.arg0 s.ctl.snap.arg1).setOperands o).carriers = s.carriers := h rfl
    exact map_guard (map_guard (map_guard (congrArg Except.ok (schedLoop_setOperands _ hstart))))

/-- R284: executing a command commutes with replacing the operands, since its rule does and its completion touches none. -/
theorem exec_setOperands {i : Instr} {s t : State} {o : Operands} (h : i = .dstart → (s.setOperands o).carriers = s.carriers)
    (hexec : exec i s = .next t) : exec i (s.setOperands o) = .next (t.setOperands o) := by
  obtain ⟨r, hr, rfl⟩ | ⟨e, he, rfl⟩ := exec_next_cases hexec
  · exact exec_of_ok (by rw [ruleOf_setOperands h, hr]; rfl)
  · exact exec_of_error (by rw [ruleOf_setOperands h, he]; rfl)

/-- R241: a command leaves the operands as the host left them: executing commutes with putting back the operands that stand. -/
theorem exec_operands {i : Instr} {s t : State} (hexec : exec i s = .next t) : t.operands = s.operands := by
  have hsame := exec_setOperands (o := s.operands) (fun _ => by rw [State.setOperands_operands]) hexec
  rw [State.setOperands_operands, hexec] at hsame
  obtain ht : t = t.setOperands s.operands := Host.Outcome.next.inj hsame
  rw [ht, State.operands_setOperands]

/-- Settles O12: an operand write replaces operands alone, execution commutes with that, and it leaves the operands themselves alone. -/
theorem operandWritesDoNotReachAPendingCommand : Obligations.OperandWritesDoNotReachAPendingCommand := by
  unfold Obligations.OperandWritesDoNotReachAPendingCommand
  intro i s t r v hr hexec
  have hreg : IsOperandReg r := hr.imp id And.right
  have hcarriers (hi : i = .dstart) : (s.setOperands (s.operands.write r v)).carriers = s.carriers := by
    rw [← writeReg_operand hreg]
    exact carriers_writeReg (hr.resolve_right fun hne => hne.1 hi) s v
  rw [writeReg_operand hreg s, writeReg_operand hreg t, exec_operands hexec]
  exact exec_setOperands hcarriers hexec

end Sys2Proof.Machine

/-! ## Every step keeps the invariant: the shared operations -/

namespace Sys2Proof.Machine

/-- R35, R240: a completion's `RESULT` has its reserved bits 0 and a code of the table. -/
theorem inv_complete {s : State} (h : s.Inv) (e : Option CmdError) : (s.complete e).Inv := by
  have hctl : ctlOk (s.complete e).ctl := by
    unfold ctlOk
    rw [State.complete_ctl_result, resultWord_middle, resultWord_code]
    exact ⟨rfl, resultCode_le e⟩
  exact { h with ctl := hctl }

theorem inv_respond {s : State} (h : s.Inv) (d : Word) : (s.respond d).Inv := { h with }

theorem inv_busError {s : State} (h : s.Inv) : s.busError.Inv := { h with }

theorem inv_setRes0 {s : State} (h : s.Inv) (v : Nat) : (s.setRes0 v).Inv := { h with }

theorem inv_setRes1 {s : State} (h : s.Inv) (v : Nat) : (s.setRes1 v).Inv := { h with }

/-- R80: bytes stored inside BUF keep memory canonical. -/
theorem inv_store {s : State} (h : s.Inv) {a n : Nat} {bs : List Byte} (hlen : bs.length = n) (hb : inBounds a n = true) :
    (s.store a bs).Inv :=
  { h with mem := Memory.wf_writeBytes h.mem (hlen ▸ hb) }

theorem inv_setPrbs {s : State} (h : s.Inv) (u : Nat) {p : PrbsUnit} (hp : prbsOk p) : (s.setPrbs u p).Inv := by
  unfold State.setPrbs
  split
  · exact { h with prbs0 := hp }
  · exact { h with prbs1 := hp }

/-! ### The scheduler (R58, R212-R216) -/

/-- R58: what the scheduler's registers satisfy whatever the time: what an evaluation starts from and what each of its turns keeps. -/
structure SchedReady (d : DopRegs) : Prop where
  index : d.idx.toNat ≤ d.cnt.toNat
  table : inBounds d.base.toNat (16 * d.cnt.toNat) = true
  handled : d.pubn.toNat + d.skipn.toNat = d.idx.toNat

theorem schedReady_of_schedOk {d : DopRegs} (h : schedOk d) : SchedReady d := ⟨h.1, h.2.1, h.2.2.1⟩

theorem SchedReady.schedOk {d : DopRegs} (h : SchedReady d)
    (hrun : d.drun = true → d.phase = .wait ∧ d.idx.toNat < d.cnt.toNat ∧ d.now < d.lt) : schedOk d :=
  ⟨h.index, h.table, h.handled, hrun⟩

/-- R203, R216: with no run active nothing is waited for. -/
theorem SchedReady.schedOk_of_stopped {d : DopRegs} (h : SchedReady d) : Machine.schedOk { d with drun := false } :=
  ⟨h.index, h.table, h.handled, nofun⟩

theorem SchedReady.index_lt {d : DopRegs} (h : SchedReady d) (hne : d.idx ≠ d.cnt) : d.idx.toNat < d.cnt.toNat :=
  lt_of_le_of_ne h.index fun heq => hne (BitVec.eq_of_toNat_eq heq)

/-- R214, R215: the index, moved one sample on while it is below the count, does not wrap. -/
theorem toNat_index_succ {idx cnt : Word} (h : idx.toNat < cnt.toNat) : (idx + 1).toNat = idx.toNat + 1 := by
  have := cnt.isLt
  have hone : (1 : Word).toNat = 1 := rfl
  rw [BitVec.toNat_add, hone, Nat.mod_eq_of_lt (by omega)]

/-- A counter of handled samples does not saturate while the index is below the count. -/
theorem toNat_satInc_of_lt {c cnt : Word} (h : c.toNat < cnt.toNat) : (satInc c).toNat = c.toNat + 1 := by
  have := cnt.isLt
  rw [satInc_toNat]
  omega

/-- R215: a skip counts the sample it passes. -/
theorem schedReady_skip {s : State} (h : SchedReady s.dop) (hne : s.dop.idx ≠ s.dop.cnt) : SchedReady s.skip.dop := by
  have hlt := h.index_lt hne
  have hidx := toNat_index_succ hlt
  have hhandled := h.handled
  have hskip := toNat_satInc_of_lt (c := s.dop.skipn) (cnt := s.dop.cnt) (by omega)
  exact ⟨by simp only [State.skip_dop_idx, State.skip_dop_cnt]; omega, h.table,
    by simp only [State.skip_dop_pubn, State.skip_dop_skipn, State.skip_dop_idx]; omega⟩

/-- R214: a publish counts the sample it publishes. -/
theorem schedReady_publish {s : State} (h : SchedReady s.dop) (hne : s.dop.idx ≠ s.dop.cnt) : SchedReady s.publish.dop := by
  have hlt := h.index_lt hne
  have hidx := toNat_index_succ hlt
  have hhandled := h.handled
  have hpub := toNat_satInc_of_lt (c := s.dop.pubn) (cnt := s.dop.cnt) (by omega)
  exact ⟨by simp only [State.publish_dop_idx, State.publish_dop_cnt]; omega, h.table,
    by simp only [State.publish_dop_pubn, State.publish_dop_skipn, State.publish_dop_idx]; omega⟩

/-- R212: latching handles no sample. -/
theorem schedReady_latch {s : State} (h : SchedReady s.dop) : SchedReady s.latch.dop :=
  ⟨by simpa using h.index, by simpa using h.table, by simpa using h.handled⟩

/-- R212, R216: with a turn for each sample left and one to find the end, an evaluation ends with the run over, or waiting for a sample
whose time has not come. -/
theorem schedOk_schedLoop (n : Nat) {s : State} (h : SchedReady s.dop) (hfuel : s.dop.cnt.toNat - s.dop.idx.toNat < n) :
    schedOk (schedLoop n s).dop := by
  induction n generalizing s with
  | zero => omega
  | succ n ih =>
    rcases schedLoop_succ_cases n s with ⟨hstop, ht⟩ | ⟨-, -, ht⟩ | ⟨-, hne, -, ht⟩ | ⟨-, hne, -, -, ht⟩ | ⟨-, hne, -, hfuture, ht⟩ <;>
      rw [ht]
    · exact h.schedOk fun hrun => absurd hrun (by simp [hstop])
    · exact SchedReady.schedOk ⟨h.index, h.table, h.handled⟩ nofun
    · refine ih (schedReady_skip h hne) ?_
      have hlt := h.index_lt hne
      have hidx := toNat_index_succ hlt
      simp only [State.skip_dop_idx, State.skip_dop_cnt]
      omega
    · refine ih (schedReady_publish (schedReady_latch h) (by simpa using hne)) ?_
      have hlt := h.index_lt hne
      have hidx := toNat_index_succ hlt
      simp only [State.publish_dop_idx, State.publish_dop_cnt, State.latch_dop_idx, State.latch_dop_cnt]
      omega
    · exact (schedReady_latch h).schedOk fun _ => ⟨State.latch_dop_phase s, by simpa using h.index_lt hne, by simpa using hfuture⟩

/-- R212: the evaluation has enough turns. -/
theorem schedOk_schedEval {s : State} (h : SchedReady s.dop) : schedOk (schedEval s).dop := schedOk_schedLoop _ h (Nat.lt_succ_self _)

/-- R193, R218 (b): a publish of a sample whose time has come adds a record that was not early, with shifts of the s64 range. -/
theorem historyOk_publish {s : State} (h : historyOk s.history) (hdue : s.dop.lt ≤ s.dop.now) : historyOk s.publish.history := by
  intro p hp
  rw [State.publish_history, List.mem_append, List.mem_singleton] at hp
  rcases hp with hp | rfl
  · exact h p hp
  · obtain ⟨hdl, hdl'⟩ := sat64_range ((s.dop.fdl.toNat * s.dop.lr.toInt).tdiv shiftDivisor)
    obtain ⟨hul, hul'⟩ := sat64_range ((s.dop.ful.toNat * s.dop.lr.toInt).tdiv shiftDivisor)
    exact ⟨hdue, hdl, hdl', hul, hul'⟩

/-- R218 (b): no evaluation publishes early. -/
theorem historyOk_schedLoop (n : Nat) {s : State} (h : historyOk s.history) : historyOk (schedLoop n s).history := by
  induction n generalizing s with
  | zero => exact h
  | succ n ih =>
    rcases schedLoop_succ_cases n s with ⟨-, ht⟩ | ⟨-, -, ht⟩ | ⟨-, -, -, ht⟩ | ⟨-, -, -, hdue, ht⟩ | ⟨-, -, -, -, ht⟩ <;> rw [ht]
    · exact h
    · exact h
    · exact ih h
    · exact ih (historyOk_publish (by simpa using h) (by simpa using hdue))
    · simpa using h

/-- R213: after any change of the scheduler's registers that keeps the index, the table and the counts consistent, the evaluation restores
the invariant. -/
theorem inv_schedEval {s : State} (h : s.Inv) {d : DopRegs} (hd : SchedReady d) : (schedEval { s with dop := d }).Inv := by
  have hframe := schedEval_frame { s with dop := d }
  exact {
    mem := by rw [hframe.buf]; exact h.mem
    ctl := by rw [hframe.ctl]; exact h.ctl
    golay := by rw [hframe.golay]; exact h.golay
    prbs0 := by rw [hframe.prbs0]; exact h.prbs0
    prbs1 := by rw [hframe.prbs1]; exact h.prbs1
    ver := by rw [hframe.ver]; exact h.ver
    sched := schedOk_schedEval (s := { s with dop := d }) hd
    history := historyOk_schedLoop (s := { s with dop := d }) _ h.history }

/-- R211, R213: whatever `D_NOW` becomes, the evaluation that follows restores the invariant. -/
theorem inv_schedEval_setNow {s : State} (h : s.Inv) (now : DWord) : (schedEval { s with dop := { s.dop with now := now } }).Inv :=
  have hready := schedReady_of_schedOk h.sched
  inv_schedEval h ⟨hready.index, hready.table, hready.handled⟩

theorem inv_tickStep {s : State} (h : s.Inv) : (tickStep s).Inv := inv_schedEval_setNow h _

/-- R202: a run started over a table inside BUF. -/
theorem inv_startRun {s : State} (h : s.Inv) {base count : Word} (hb : inBounds base.toNat (16 * count.toNat) = true) :
    (schedEval (s.startRun base count)).Inv :=
  inv_schedEval h ⟨Nat.zero_le _, hb, rfl⟩

end Sys2Proof.Machine

/-! ## What the commands store fits the range their bounds test checks (R84, R126-R128, R147, R148, R200) -/

namespace Sys2Proof.Machine

@[simp] theorem PrbsUnit.bits_length (p : PrbsUnit) (x n : Nat) : (p.bits x n).length = n := by simp [PrbsUnit.bits]

/-- R126, R127: `n` stream bits take `ceil(n/8)` bytes. -/
theorem pack_bits_length (p : PrbsUnit) (x n : Nat) : (pack (p.bits x n)).length = byteCount n := by simp

/-- R128: a sequence packet is 4 index bytes and `L / 8` payload bytes. -/
theorem packet_length (p : PrbsUnit) (k : Nat) {L : Nat} (hL : L % 8 = 0) : (p.packet k L).length = 4 + L / 8 := by
  have hbytes : byteCount L = L / 8 := by unfold byteCount; omega
  rw [PrbsUnit.packet, List.length_append, leBytes_length, pack_bits_length, hbytes]

/-- R147: each 12-bit group gives a 24-bit codeword. -/
theorem golayEncStream_length (b : List Bool) (n : Nat) : (golayEncStream b n).length = n * 24 := by
  simp [golayEncStream, List.length_flatMap]

/-- R147: a framed packet of `K` payload bytes is `8 + 2K` bytes. -/
theorem golayFrame_length (pre post : Word) {payload : List Byte} (h : payload.length % 3 = 0) :
    (golayFrame pre post payload).length = 8 + 2 * payload.length := by
  have hcode : byteCount (2 * payload.length / 3 * 24) = 2 * payload.length := by unfold byteCount; omega
  simp only [golayFrame, List.length_append, leBytes_length, pack_length, golayEncStream_length, hcode]
  omega

@[simp] theorem golayDecBlocks_length (b : List Bool) (n : Nat) : (golayDecBlocks b n).length = n := by simp [golayDecBlocks]

/-- R148: the decoded payload of `n` blocks is `ceil(12n/8)` bytes. -/
theorem golayDecPayload_length (rs : List GolayResult) : (golayDecPayload rs).length = byteCount (12 * rs.length) := by
  simp [golayDecPayload, List.length_flatMap, Nat.mul_comm]

/-- R148: a decoded message is its two markers and its payload. -/
theorem gdecf_output_length (s : State) :
    (s.buf.bytes s.a0 4 ++ golayDecPayload (gdecfBlocks s) ++ s.buf.bytes (s.a0 + s.a1 - 4) 4).length = golayOutLen ((s.a1 - 8) / 3) := by
  simp only [List.length_append, Memory.bytes_length, golayDecPayload_length, gdecfBlocks, golayDecBlocks_length, golayOutLen]
  omega

/-- R200: the interpolation of a table has `NO` samples. -/
theorem interp_length (cps : Nat) (xs : List Sample) : (interp cps xs).length = interpCount xs.length cps := by
  induction xs with
  | nil => rfl
  | cons x rest ih =>
    cases rest with
    | nil => simp [interp, interpCount]
    | cons y rest =>
      rw [interp, List.length_append, ih]
      simp [interpCount, Nat.add_mul]
      omega

/-- R191: a sample's record is 16 bytes. -/
theorem record_length (x : Sample) : x.record.length = 16 := by simp [Sample.record]

/-- R200: the stored interpolation of an `n`-sample table is 16 bytes for each of its `NO` samples. -/
theorem interp_records_length (m : Memory) (a n cps : Nat) :
    ((interp cps (samplesAt m a n)).flatMap Sample.record).length = 16 * interpCount n cps := by
  simp [List.length_flatMap, record_length, interp_length, samplesAt, Nat.mul_comm]

/-! ## What the Golay decoder answers (R45, R47, R143) -/

/-- R143: a block is corrected with at most 3 errors, or uncorrectable with `NERR` 4. -/
theorem golayDec_cases (r : BitVec 24) :
    ((golayDec r).uncorr = false ∧ (golayDec r).nerr ≤ 3) ∨ ((golayDec r).uncorr = true ∧ (golayDec r).nerr = 4) := by
  unfold golayDec
  cases hnear : golayNear r with
  | none => exact .inr ⟨rfl, rfl⟩
  | some d => exact .inl ⟨rfl, by simpa using List.find?_some hnear⟩

/-- R45: `G_DSTAT` after a decoding. -/
theorem golayStat_golayDec (r : BitVec 24) :
    golayStat (golayDec r) = 0 ∨ golayStat (golayDec r) = 1 ∨ golayStat (golayDec r) = 2 ∨ golayStat (golayDec r) = 3 ∨
      golayStat (golayDec r) = 0x104 := by
  unfold golayStat
  rcases golayDec_cases r with ⟨hu, hn⟩ | ⟨hu, hn⟩
  · rw [hu]
    interval_cases (golayDec r).nerr <;> decide
  · rw [hu, hn]
    decide

/-- R148: at most 3 errors are corrected in each correctable block. -/
theorem golayCorrected_le {rs : List GolayResult} (h : ∀ g ∈ rs, g.uncorr = false → g.nerr ≤ 3) :
    golayCorrected rs + 3 * golayUncorr rs ≤ 3 * rs.length := by
  unfold golayCorrected golayUncorr
  induction rs with
  | nil => simp
  | cons g rest ih =>
    have hrest := ih fun g' hg' => h g' (List.mem_cons_of_mem _ hg')
    cases hu : g.uncorr with
    | true => simp [hu]; omega
    | false =>
      have hg := h g List.mem_cons_self hu
      simp [hu]
      omega

/-- R148: the frame counts of a decoded message fit its blocks. -/
theorem gdecf_counts (s : State) :
    golayUncorr (gdecfBlocks s) ≤ (s.a1 - 8) / 3 ∧
      golayCorrected (gdecfBlocks s) ≤ 3 * ((s.a1 - 8) / 3 - golayUncorr (gdecfBlocks s)) := by
  have hlen : (gdecfBlocks s).length = (s.a1 - 8) / 3 := golayDecBlocks_length _ _
  have hcor : golayCorrected (gdecfBlocks s) + 3 * golayUncorr (gdecfBlocks s) ≤ 3 * (gdecfBlocks s).length := by
    refine golayCorrected_le fun g hg hu => ?_
    obtain ⟨j, -, rfl⟩ := List.mem_map.1 hg
    rcases golayDec_cases (BitVec.ofNat 24 (valOf (subStream (unpack (s.buf.bytes (s.a0 + 4) (s.a1 - 8))) (24 * j) 24))) with h | h
    · exact h.2
    · rw [hu] at h; exact absurd h.1 (by decide)
  omega

/-- R84: a nonempty range in bounds is no longer than BUF. -/
theorem length_le_of_inBounds {a n : Nat} (h : inBounds a n = true) : n ≤ 65536 := by
  have hle := (inBounds_iff a n).1 h
  unfold Config.bufSize at hle
  omega

/-! ## Every step keeps the invariant: the commands -/

/-- R47: frame counts that fit their blocks. -/
theorem inv_setFrame {s : State} (h : s.Inv) {blk unc cor : Nat} (hblk : blk ≤ 65536) (hunc : unc ≤ blk) (hcor : cor ≤ 3 * (blk - unc)) :
    (s.setFrame blk unc cor).Inv := by
  refine { h with golay := ⟨h.golay.1, ?_⟩ }
  simp only [State.setFrame, BitVec.toNat_ofNat]
  rw [Nat.mod_eq_of_lt (by omega), Nat.mod_eq_of_lt (by omega), Nat.mod_eq_of_lt (by omega)]
  exact ⟨hunc, hcor⟩

/-- R45: a decoding writes `G_DOUT` and `G_DSTAT` and leaves the frame counts alone. -/
theorem inv_setDecoded {s : State} (h : s.Inv) (d : BitVec 12) {w : Word} (hw : w = 0 ∨ w = 1 ∨ w = 2 ∨ w = 3 ∨ w = 0x104) :
    State.Inv { s with golay := { s.golay with dout := d, dstat := w } } :=
  { h with golay := ⟨hw, h.golay.2⟩ }

/-- R125: a freshly configured unit stands at the start of its cycle. -/
theorem prbsOk_configured (sel : BitVec 2) {len : Word} (h : len ≠ 0) : prbsOk (PrbsUnit.configured sel len) :=
  ⟨fun h0 => absurd h0 h, fun _ => ⟨Nat.pos_of_ne_zero fun h0 => h (BitVec.eq_of_toNat_eq h0), rfl⟩⟩

/-- R126, R123: an advanced unit has its cursor inside the cycle and the register that goes with it. -/
theorem prbsOk_advance {p : PrbsUnit} (h : p.len ≠ 0) (n : Nat) : prbsOk (p.advance n) := by
  refine ⟨fun h0 => absurd h0 h, fun _ => ?_⟩
  have hpos : 0 < p.len.toNat := Nat.pos_of_ne_zero fun h0 => h (BitVec.eq_of_toNat_eq h0)
  have hlt : (p.cur.toNat + n) % p.len.toNat < p.len.toNat := Nat.mod_lt _ hpos
  have hcur : (p.advance n).cur.toNat = (p.cur.toNat + n) % p.len.toNat :=
    (BitVec.toNat_ofNat _ _).trans (Nat.mod_eq_of_lt (hlt.trans p.len.isLt))
  rw [hcur]
  exact ⟨hlt, rfl⟩

/-- R170: a configured verifier is legal, with nothing counted. -/
theorem verOk_configured (v : VerRegs) {e l : Word} (he : e.toNat ≠ 0) (hmax : e.toNat ≤ Config.maxExpected) (hl : l.toNat ≠ 0)
    (hmod : l.toNat % 8 = 0) : verOk (v.configured e l) :=
  ⟨fun h0 => absurd (congrArg BitVec.toNat h0) he, fun _ => ⟨hmax, fun h0 => hl (congrArg BitVec.toNat h0), hmod⟩, List.Pairwise.nil,
    nofun, fun _ => ⟨rfl, rfl, rfl, rfl⟩, nofun⟩

/-- R172 step (5): a packet is correct only at an expected index. -/
theorem lt_of_verdict_correct {s : State} {src n k : Nat} (h : verdict s src n = .correct k) : k < s.ver.expect.toNat := by
  unfold verdict at h
  simp only at h
  split at h
  · cases h
  · split at h
    · cases h
    · split at h
      · cases h
      · cases h; omega

/-- R172: a tally of a configured verifier counts at expected indices only. -/
theorem verOk_tally {v : VerRegs} (h : verOk v) (hne : v.expect ≠ 0) {d : Verdict} (hd : ∀ k, d = .correct k → k < v.expect.toNat) :
    verOk (v.tally d) := by
  obtain ⟨-, hconf, hkeys, hcounts, hopen, hfinal⟩ := h
  cases d with
  | correct k =>
    refine ⟨fun h0 => absurd h0 hne, hconf, keysRise_cellPut hkeys k _, fun c hc => ?_, hopen, hfinal⟩
    rcases mem_cellPut hc with rfl | hc
    · exact ⟨hd k rfl, satInc_ne_zero _⟩
    · exact hcounts c hc
  | wrongLength | mismatch k | outOfRange k => exact ⟨fun h0 => absurd h0 hne, hconf, hkeys, hcounts, hopen, hfinal⟩

/-- R173: the statistics of a finalized verifier are those of the indices received. -/
theorem verOk_finalized {v : VerRegs} (h : verOk v) (hne : v.expect ≠ 0) : verOk v.finalized := by
  obtain ⟨-, hconf, hkeys, hcounts, -, -⟩ := h
  refine ⟨fun h0 => absurd h0 hne, hconf, hkeys, hcounts, nofun, fun _ => ?_⟩
  have hmax : v.expect.toNat ≤ 65536 := (hconf hne).1
  have hrecv : v.received v.expect.toNat ≤ v.expect.toNat := by
    simpa [VerRegs.received] using List.countP_le_length (l := List.range v.expect.toNat)
  have hferq : (v.expect.toNat - v.received v.expect.toNat) * 65536 / v.expect.toNat ≤ 65536 :=
    Nat.div_le_of_le_mul (Nat.mul_le_mul_right _ (Nat.sub_le _ _))
  simp only [VerRegs.finalized, BitVec.toNat_ofNat]
  rw [Nat.mod_eq_of_lt (by omega), Nat.mod_eq_of_lt (by omega), Nat.mod_eq_of_lt (by omega)]
  exact ⟨by omega, rfl⟩

/-- R173: finalizing once or again. -/
theorem verOk_finalize {v : VerRegs} (h : verOk v) (hne : v.expect ≠ 0) : verOk v.finalize := by
  unfold VerRegs.finalize
  split
  · exact h
  · exact verOk_finalized h hne

/-- R231: each command's rule, reaching its end, keeps the invariant. -/
theorem inv_ruleOf {i : Instr} {s t : State} (h : s.Inv) (hrule : ruleOf i s = .ok t) : t.Inv := by
  cases i with
  | nop => cases hrule; exact h
  | pcfg u sel =>
    obtain ⟨hlen, -, rfl⟩ := pcfgRule_ok hrule
    exact inv_setPrbs h u (prbsOk_configured _ fun h0 => hlen (congrArg BitVec.toNat h0))
  | pgen u =>
    obtain ⟨hlen, hb, rfl⟩ := pgenRule_ok hrule
    exact inv_setRes0 (inv_setPrbs (inv_store h (pack_bits_length _ _ _) hb) u (prbsOk_advance hlen _)) _
  | pgeno u =>
    obtain ⟨-, hb, rfl⟩ := pgenoRule_ok hrule
    exact inv_setRes0 (inv_store h (pack_bits_length _ _ _) hb) _
  | pseq u =>
    obtain ⟨-, -, hmod, hb, rfl⟩ := pseqRule_ok hrule
    exact inv_setRes0 (inv_store h (packet_length _ _ hmod) hb) _
  | genc => cases hrule; exact { h with }
  | gdec =>
    cases hrule
    exact inv_setDecoded h _ (golayStat_golayDec s.ctl.snap.gCin)
  | gencf =>
    obtain ⟨hmod, hsrc, hdst, rfl⟩ := gencfRule_ok hrule
    have hlen := golayFrame_length s.ctl.snap.gPre s.ctl.snap.gPost (payload := s.buf.bytes s.a0 s.a1) (by simpa using hmod)
    have hfit := length_le_of_inBounds hdst
    exact inv_setRes0 (inv_setFrame (inv_store h (by simpa using hlen) hdst) (by omega) (by omega) (by omega)) _
  | gdecf =>
    obtain ⟨-, -, hsrc, hdst, rfl⟩ := gdecfRule_ok hrule
    obtain ⟨hunc, hcor⟩ := gdecf_counts s
    have hfit := length_le_of_inBounds hsrc
    exact inv_setRes1 (inv_setRes0 (inv_setFrame (inv_store h (gdecf_output_length s) hdst) (by omega) hunc hcor) _) _
  | vcfg =>
    obtain ⟨he, hmax, hl, hmod, rfl⟩ := vcfgRule_ok hrule
    exact { h with ver := verOk_configured _ he hmax hl hmod }
  | vseen =>
    obtain ⟨hne, rfl⟩ := vseenRule_ok hrule
    obtain ⟨-, hconfigured⟩ := h.ver
    exact { h with ver := ⟨fun h0 => absurd h0 hne, hconfigured⟩ }
  | vpkt =>
    obtain ⟨hne, -, -, rfl⟩ := vpktRule_ok hrule
    have hver : verOk (s.ver.tally (verdict s s.a0 s.a1)) := verOk_tally h.ver hne fun k => lt_of_verdict_correct
    refine inv_setRes1 (inv_setRes0 ?_ _) _
    exact { h with ver := hver }
  | vfin =>
    obtain ⟨hne, rfl⟩ := vfinRule_ok hrule
    refine inv_setRes1 (inv_setRes0 ?_ _) _
    exact { h with ver := verOk_finalize h.ver hne }
  | dinterp =>
    obtain ⟨-, -, hdst, -, rfl⟩ := dinterpRule_ok hrule
    exact inv_setRes0 (inv_store h (interp_records_length _ _ _ _) hdst) _
  | dshift => cases hrule; exact { h with }
  | dstart =>
    obtain ⟨hb, -, -, rfl⟩ := dstartRule_ok hrule
    exact inv_startRun h hb
  | dstop =>
    cases hrule
    refine inv_setRes0 ?_ _
    exact { h with sched := (schedReady_of_schedOk h.sched).schedOk_of_stopped }

/-- R231, R243: the engine's execution keeps the invariant. -/
theorem inv_engineStep {s t : State} (h : s.Inv) (hstep : engineStep s = .next t) : t.Inv := by
  obtain ⟨i, r, hr, rfl⟩ | ⟨e, rfl⟩ := engineStep_next_cases hstep
  · exact inv_complete (inv_ruleOf h hr) none
  · exact inv_complete h (some e)

/-! ## Every step keeps the invariant: the host -/

/-- R281: a soft reset keeps BUF and the history and resets the rest. -/
theorem inv_softReset {s : State} (h : s.Inv) : s.softReset.Inv :=
  { resetSatisfiesTheInvariant with mem := h.mem, history := h.history }

/-- R51: `V_IDX` is the host's. -/
theorem verOk_setIdx {v : VerRegs} (h : verOk v) (w : Word) : verOk { v with idx := w } :=
  ⟨fun h0 => congrArg (fun r : VerRegs => { r with idx := w }) (h.1 h0), h.2⟩

/-- R33, R246: accepting or dropping a command. -/
theorem inv_writeCmd {s : State} (h : s.Inv) (v : Word) : (s.writeCmd v).Inv := by
  unfold State.writeCmd
  split <;> exact { h with }

theorem inv_writeCtrl {s : State} (h : s.Inv) (v : Word) : (s.writeCtrl v).Inv := by
  unfold State.writeCtrl
  split
  · exact inv_softReset h
  · exact h

/-- R88: the write shadows are no part of the invariant. -/
theorem inv_writeLo {s : State} (h : s.Inv) (q : Reg64) (v : Word) : (s.writeLo q v).Inv := by
  cases q with
  | now | fdl | ful | rr => exact { h with }
  | dl | ul | pt | lt | lr => exact h

/-- R88: a commit of `D_NOW` evaluates the scheduler; the other commits touch no register that the invariant speaks of. -/
theorem inv_writeHi {s : State} (h : s.Inv) (q : Reg64) (v : Word) : (s.writeHi q v).Inv := by
  cases q with
  | now => exact inv_schedEval_setNow h _
  | fdl | ful | rr => exact { h with }
  | dl | ul | pt | lt | lr => exact h

/-- R32-R61: a host write of any register keeps the invariant. -/
theorem inv_writeReg {s : State} (h : s.Inv) (r : Reg) (v : Word) : (writeReg s r v).Inv := by
  cases r with
  | cmd => exact inv_writeCmd h v
  | ctrl => exact inv_writeCtrl h v
  | irqPend | irqEn | arg0 | arg1 | arg2 | arg3 => exact { h with }
  | gDin | gCin | gPre | gPost => exact { h with }
  | vIdx => exact { h with ver := verOk_setIdx h.ver v }
  | lo q => exact inv_writeLo h q v
  | hi q => exact inv_writeHi h q v
  | _ => exact h

/-- R96: a register read keeps the invariant. -/
theorem inv_afterRead {s : State} (h : s.Inv) (r : Reg) : (afterRead s r).Inv := by
  cases r with
  | lo q => cases q <;> exact { h with }
  | _ => exact h

/-- R81-R91: a host access keeps the invariant. -/
theorem inv_hostEffect {a : HostAccess} {s t : State} (h : s.Inv) (heffect : HostEffect s a t) : t.Inv := by
  cases heffect with
  | busError => exact inv_busError h
  | answered => exact inv_respond h _
  | readReg _ r d => exact inv_respond (inv_afterRead h r) d
  | writeReg r w v => exact inv_respond (inv_writeReg h r v) 0
  | store o b w v hb => exact inv_respond (inv_store h (leBytes_length w _) hb) 0

/-- Settles O58: the tick, the engine's execution and the host's access each keep the invariant. -/
theorem everyStepKeepsTheInvariant : Obligations.EveryStepKeepsTheInvariant := by
  unfold Obligations.EveryStepKeepsTheInvariant
  intro s t h hstep
  have hrest (rest : List Event) : State.Inv { s with agenda := rest } := { h with }
  obtain ⟨rest, rfl | rfl | hengine | ⟨a, -, heffect⟩⟩ := step_next_cases hstep
  · exact hrest rest
  · exact inv_tickStep (hrest rest)
  · exact inv_engineStep (hrest rest) hengine
  · exact inv_hostEffect (hrest rest) heffect

end Sys2Proof.Machine

/-! ## Where a host access goes, and which accesses the bus answers with an error (20_memory.md R81-R83, R87) -/

namespace Sys2Proof.Machine

/-- R81: an offset from 0x10000 to below 0x20000 is in BUF. -/
theorem route_buffer {o : Nat} (hlo : 0x10000 ≤ o) (hhi : o < 0x20000) : route o = .buf (o - 0x10000) := by
  rw [route, if_neg (by omega), if_pos (by rw [Config.bufSize]; omega)]

/-- R81: an offset from 0x20000 on is outside the block. -/
theorem route_outside {o : Nat} (h : 0x20000 ≤ o) : route o = .outside := by
  rw [route, if_neg (by omega), if_neg (by rw [Config.bufSize]; omega)]

/-- R83: a BUF access is held exactly while a command is pending. -/
theorem holds_buffer {s : State} {a : HostAccess} (hlo : 0x10000 ≤ a.offset) (hhi : a.offset < 0x20000) : s.holds a = s.ctl.busy := by
  rw [State.holds, route_buffer hlo hhi]

/-- An access outside the block is not held: it is not a BUF access (R83). -/
theorem holds_outside {s : State} {a : HostAccess} (h : 0x20000 ≤ a.offset) : s.holds a = false := by
  rw [State.holds, route_outside h]

/-- R82: a BUF access that is answered without error, in numbers. -/
theorem bufAccessOk_iff (a w : Nat) : bufAccessOk a w = true ↔ (w = 1 ∨ w = 2 ∨ w = 4) ∧ a % w = 0 ∧ a + w ≤ 65536 := by
  simp only [bufAccessOk, Bool.and_eq_true, Bool.or_eq_true, decide_eq_true_eq, and_assoc, or_assoc]
  rfl

/-- R82, R87: an access of `w` bytes at offset `o` is one that the bus answers with an error. -/
def IsBusError (o w : Nat) : Prop :=
  (route o = .reg o ∧ regAccessOk o w = false) ∨ ∃ b, route o = .buf b ∧ bufAccessOk b w = false

/-- R87: a register access of another width or off its alignment is a bus error. -/
theorem isBusError_register {o w : Nat} (ho : o < 0x10000) (h : w ≠ 4 ∨ o % 4 ≠ 0) : IsBusError o w := by
  refine .inl ⟨route_register ho, ?_⟩
  simpa [regAccessOk, imp_iff_not_or] using h

/-- R82: a BUF access off its alignment or past the end of BUF is a bus error. -/
theorem isBusError_buffer {o w : Nat} (hlo : 0x10000 ≤ o) (hhi : o < 0x20000) (h : (o - 0x10000) % w ≠ 0 ∨ 65536 < o - 0x10000 + w) :
    IsBusError o w := by
  refine .inr ⟨_, route_buffer hlo hhi, ?_⟩
  rw [← Bool.not_eq_true, bufAccessOk_iff]
  rintro ⟨-, halign, hend⟩
  omega

/-- R81: a read that the map routes to register space. -/
theorem hostStep_read_of_reg {o o' : Nat} (h : route o = .reg o') (w : Nat) (s : State) :
    hostStep (.read o w) s = .next (regReadStep o' w s) := by rw [hostStep, h]

/-- R81: a write that the map routes to register space. -/
theorem hostStep_write_of_reg {o o' : Nat} (h : route o = .reg o') (w : Nat) (v : Word) (s : State) :
    hostStep (.write o w v) s = .next (regWriteStep o' w v s) := by rw [hostStep, h]

/-- R81: a read that the map routes to BUF. -/
theorem hostStep_read_of_buf {o b : Nat} (h : route o = .buf b) (w : Nat) (s : State) :
    hostStep (.read o w) s = .next (bufReadStep b w s) := by rw [hostStep, h]

/-- R81: a write that the map routes to BUF. -/
theorem hostStep_write_of_buf {o b : Nat} (h : route o = .buf b) (w : Nat) (v : Word) (s : State) :
    hostStep (.write o w v) s = .next (bufWriteStep b w v s) := by rw [hostStep, h]

/-- R82, R87, R245: a read that is a bus error only gets that answer. -/
theorem hostStep_read_busError {o w : Nat} (h : IsBusError o w) (s : State) : hostStep (.read o w) s = .next s.busError := by
  obtain ⟨hroute, hbad⟩ | ⟨b, hroute, hbad⟩ := h
  · rw [hostStep_read_of_reg hroute, regReadStep, if_pos hbad]
  · rw [hostStep_read_of_buf hroute, bufReadStep, if_pos hbad]

/-- R82, R87, R245: a write that is a bus error only gets that answer. -/
theorem hostStep_write_busError {o w : Nat} (h : IsBusError o w) (v : Word) (s : State) :
    hostStep (.write o w v) s = .next s.busError := by
  obtain ⟨hroute, hbad⟩ | ⟨b, hroute, hbad⟩ := h
  · rw [hostStep_write_of_reg hroute, regWriteStep, if_pos hbad]
  · rw [hostStep_write_of_buf hroute, bufWriteStep, if_pos hbad]

/-- R81: byte `a` of BUF stands at offset `0x10000 + a`. -/
theorem route_buffer_byte {a : Nat} (h : a < 65536) : route (0x10000 + a) = .buf a := by
  rw [route_buffer (by omega) (by omega), Nat.add_sub_cancel_left]

/-- R81, R82: a BUF read that the bus takes is answered with the little-endian value. -/
theorem hostStep_read_buffer {a w : Nat} (h : bufAccessOk a w = true) (ha : a < 65536) (s : State) :
    hostStep (.read (0x10000 + a) w) s = .next (s.respond (BitVec.ofNat 32 (s.buf.read a w))) := by
  rw [hostStep_read_of_buf (route_buffer_byte ha), bufReadStep, if_neg (by simp [h])]

/-- R81, R82: a BUF write that the bus takes stores the value's low bytes. -/
theorem hostStep_write_buffer {a w : Nat} (h : bufAccessOk a w = true) (ha : a < 65536) (v : Word) (s : State) :
    hostStep (.write (0x10000 + a) w v) s = .next ((s.store a (leBytes w v.toNat)).respond 0) := by
  rw [hostStep_write_of_buf (route_buffer_byte ha), bufWriteStep, if_neg (by simp [h])]

/-- Settles O15: the access is held by no command and fails the bus's test, so it is only answered. -/
theorem busErrorChangesNoState : Obligations.BusErrorChangesNoState := by
  unfold Obligations.BusErrorChangesNoState
  intro s rest o w v hbad
  have hholds (a : HostAccess) (ha : a.offset = o) : s.holds a = false := by
    subst ha
    obtain ⟨ho, -⟩ | ⟨hbusy, hlo, hhi, -⟩ := hbad
    · exact holds_register ho
    · rw [holds_buffer hlo hhi, hbusy]
  have herr : IsBusError o w := by
    obtain ⟨ho, hw⟩ | ⟨-, hlo, hhi, -, hw⟩ := hbad
    · exact isBusError_register ho hw
    · exact isBusError_buffer hlo hhi hw
  refine ⟨fun ha => ?_, fun ha => ?_⟩
  · rw [step_host ha (hholds _ rfl), hostStep_read_busError herr]; rfl
  · rw [step_host ha (hholds _ rfl), hostStep_write_busError herr]; rfl

/-! ### A BUF write, byte by byte (R20, R89) -/

/-- R89: byte `k` of a little-endian store is bits `8k` to `8k + 7` of the value. -/
theorem leBytes_getD {n k : Nat} (h : k < n) (v : Word) : (leBytes n v.toNat).getD k 0 = v.extractLsb' (8 * k) 8 := by
  have hbyte : BitVec.ofNat 8 (v.toNat / 256 ^ k) = v.extractLsb' (8 * k) 8 := by
    refine BitVec.eq_of_toNat_eq ?_
    rw [BitVec.extractLsb'_toNat, BitVec.toNat_ofNat, Nat.shiftRight_eq_div_pow, pow_mul, show 2 ^ 8 = 256 from rfl]
  simpa [leBytes, List.getD, h] using hbyte

/-- R89: a range just stored reads back as the value's low bytes. -/
theorem read_store_same (s : State) (a w v : Nat) : (s.store a (leBytes w v)).buf.read a w = v % 256 ^ w := by
  have hbytes := Memory.bytes_writeBytes_same s.buf a (leBytes w v)
  rw [leBytes_length] at hbytes
  rw [Memory.read, State.store, hbytes, leValue_leBytes]

/-- R20: a store leaves every byte outside its range alone. -/
theorem keepsOutside_store (s : State) (a w v : Nat) : Claim.keepsOutside s (s.store a (leBytes w v)) a w := by
  intro x hx
  rw [State.byteAt_store, leBytes_length, if_neg (by omega)]

/-- Settles O14: the write stores the value's little-endian bytes and answers, and a read finds them. -/
theorem bufWriteReadsBack : Obligations.BufWriteReadsBack := by
  unfold Obligations.BufWriteReadsBack
  intro s a w v hw halign hend
  have hok : bufAccessOk a w = true := (bufAccessOk_iff a w).2 ⟨hw, halign, hend⟩
  have ha : a < 65536 := by omega
  have hbyte (k : Nat) (hk : k < w) : (s.store a (leBytes w v.toNat)).byteAt (a + k) = v.extractLsb' (8 * k) 8 := by
    rw [State.byteAt_store, leBytes_length, if_pos (by omega), Nat.add_sub_cancel_left, leBytes_getD hk]
  refine ⟨_, hostStep_write_buffer hok ha v s, keepsOutside_store s a w v.toNat, hbyte, rfl, rfl, rfl, rfl, rfl, rfl, rfl, rfl, rfl, rfl, ?_⟩
  rw [hostStep_read_buffer hok ha, State.respond_buf, read_store_same]
  rfl

end Sys2Proof.Machine

/-! ## The 64-bit access protocol (20_memory.md R88) -/

namespace Sys2Proof.Machine

/-- R53, R88: the commit of `D_NOW` writes it, and the evaluation that follows leaves it alone. -/
theorem writeHi_now_commits (s : State) (v : Word) : (s.writeHi .now v).dop.now = v ++ s.wsh.now := (schedEval_frame _).now

/-- R88: `_LO` and then `_HI` of a writable register give the whole value. -/
theorem writeHi_writeLo {r : Reg64} (h : r ∈ [Reg64.now, .fdl, .ful, .rr]) (s : State) (a b : Word) :
    ((s.writeLo r a).writeHi r b).get64 r = b ++ a := by
  simp only [List.mem_cons, List.not_mem_nil, or_false] at h
  obtain rfl | rfl | rfl | rfl := h
  · exact writeHi_now_commits (s.writeLo .now a) b
  · rfl
  · rfl
  · rfl

/-- D37, R88: a read-only 64-bit register ignores writes of either half. -/
theorem write_readOnly64 {r : Reg64} (h : r ∈ [Reg64.dl, .ul, .pt, .lt, .lr]) (s : State) (v : Word) :
    s.writeLo r v = s ∧ s.writeHi r v = s := by
  simp only [List.mem_cons, List.not_mem_nil, or_false] at h
  obtain rfl | rfl | rfl | rfl | rfl := h <;> exact ⟨rfl, rfl⟩

/-- Settles O17, clause by clause from what each half's write and read do. -/
theorem sixtyFourBitProtocol : Obligations.SixtyFourBitProtocol := by
  unfold Obligations.SixtyFourBitProtocol
  refine ⟨State.writeLo_get64, fun s r a b hr => writeHi_writeLo hr s a b, fun s v => ⟨writeHi_now_commits s v, rfl, rfl, rfl⟩,
    fun s r v hr => write_readOnly64 hr s v, fun s r => ⟨rfl, ?_, fun q => ?_, rfl, rfl⟩⟩
  · exact State.latchRead_readShadow s r _
  · exact State.latchRead_get64 s r q _

end Sys2Proof.Machine

/-! ## What every agent's step leaves of the agenda, and when a step stops (20_memory.md R81, R83, 60_exceptions.md R256) -/

namespace Sys2Proof.Machine

/-- R256 (log 1): with nothing on the agenda the step is the idle one. -/
theorem step_idle {s : State} (ha : s.agenda = []) : step s = idleStep s := by simp [step, agendaStep, ha]

/-- R211, R256: a step with a tick next. -/
theorem step_tick {s : State} {rest : List Event} (ha : s.agenda = .tick :: rest) : step s = .next (tickStep { s with agenda := rest }) := by
  simp [step, agendaStep, ha]

/-- R231, R256: a step with the engine's turn next. -/
theorem step_engine {s : State} {rest : List Event} (ha : s.agenda = .engine :: rest) : step s = engineTurn { s with agenda := rest } := by
  simp [step, agendaStep, ha]

/-- R83 (log 2): a step with a held access next is the engine's. -/
theorem step_held {s : State} {a : HostAccess} {rest : List Event} (ha : s.agenda = .host a :: rest) (hh : s.holds a = true) :
    step s = engineStep s := by
  simp [step, agendaStep, ha, hostTurn, hh]

/-- What is the host's own: the agenda and the answer to its last access (log 1, log 9). -/
def KeepsHost (s t : State) : Prop := t.agenda = s.agenda ∧ t.resp = s.resp

/-- R213: an evaluation keeps what is the host's. -/
theorem keepsHost_schedEval (s : State) : KeepsHost s (schedEval s) := ⟨(schedEval_frame s).agenda, (schedEval_frame s).resp⟩

/-- No command's rule touches what is the host's. -/
theorem keepsHost_ruleOf {i : Instr} {s t : State} (h : ruleOf i s = .ok t) : KeepsHost s t := by
  cases i with
  | nop | genc | gdec | dshift | dstop => cases h; exact ⟨rfl, rfl⟩
  | pcfg u sel => obtain ⟨-, -, rfl⟩ := pcfgRule_ok h; exact ⟨by simp, by simp⟩
  | pgen u => obtain ⟨-, -, rfl⟩ := pgenRule_ok h; exact ⟨by simp, by simp⟩
  | pgeno u => obtain ⟨-, -, rfl⟩ := pgenoRule_ok h; exact ⟨rfl, rfl⟩
  | pseq u => obtain ⟨-, -, -, -, rfl⟩ := pseqRule_ok h; exact ⟨rfl, rfl⟩
  | gencf => obtain ⟨-, -, -, rfl⟩ := gencfRule_ok h; exact ⟨rfl, rfl⟩
  | gdecf => obtain ⟨-, -, -, -, rfl⟩ := gdecfRule_ok h; exact ⟨rfl, rfl⟩
  | vcfg => obtain ⟨-, -, -, -, rfl⟩ := vcfgRule_ok h; exact ⟨rfl, rfl⟩
  | vseen => obtain ⟨-, rfl⟩ := vseenRule_ok h; exact ⟨rfl, rfl⟩
  | vpkt => obtain ⟨-, -, -, rfl⟩ := vpktRule_ok h; exact ⟨rfl, rfl⟩
  | vfin => obtain ⟨-, rfl⟩ := vfinRule_ok h; exact ⟨rfl, rfl⟩
  | dinterp => obtain ⟨-, -, -, -, rfl⟩ := dinterpRule_ok h; exact ⟨rfl, rfl⟩
  | dstart => obtain ⟨-, -, -, rfl⟩ := dstartRule_ok h; exact keepsHost_schedEval _

/-- R231: every command's execution goes on to a next state. -/
theorem exec_next (i : Instr) (s : State) : ∃ t, exec i s = .next t := by
  cases hr : ruleOf i s with
  | ok r => exact ⟨_, exec_of_ok hr⟩
  | error e => exact ⟨_, exec_of_error hr⟩

/-- R231, R242: the engine's execution of any pending word goes on to a next state. -/
theorem engineStep_next (s : State) : ∃ t, engineStep s = .next t := by
  unfold engineStep
  split
  · exact exec_next _ s
  · exact ⟨_, rfl⟩

/-- R241: the engine's execution clears `BUSY` and keeps what is the host's. -/
theorem engineStep_completes {s t : State} (h : engineStep s = .next t) : t.ctl.busy = false ∧ KeepsHost s t := by
  obtain ⟨i, r, hr, rfl⟩ | ⟨e, rfl⟩ := engineStep_next_cases h
  · obtain ⟨hagenda, hresp⟩ := keepsHost_ruleOf hr
    exact ⟨rfl, hagenda, hresp⟩
  · exact ⟨rfl, rfl, rfl⟩

/-- Settles O16: a register access is never held; a held BUF access makes the engine's turn, which clears `BUSY` and so lets it through. -/
theorem busyHoldsBufAccessesOnly : Obligations.BusyHoldsBufAccessesOnly := by
  unfold Obligations.BusyHoldsBufAccessesOnly
  intro s a rest hbusy ha
  refine ⟨fun ho => step_host ha (holds_register ho), fun hlo hhi => ?_⟩
  have hheld : s.holds a = true := (holds_buffer hlo hhi).trans hbusy
  obtain ⟨t, ht⟩ := engineStep_next s
  obtain ⟨hdone, hagenda, hresp⟩ := engineStep_completes ht
  exact ⟨t, (step_held ha hheld).trans ht, hdone, hagenda, hresp, step_host (hagenda.trans ha) (by rw [holds_buffer hlo hhi, hdone])⟩

/-- R32-R61: a register write leaves the agenda alone. -/
theorem writeReg_agenda (s : State) (r : Reg) (v : Word) : (writeReg s r v).agenda = s.agenda := by
  cases r with
  | cmd => simp only [writeReg, State.writeCmd]; split <;> rfl
  | ctrl => simp only [writeReg, State.writeCtrl]; split <;> rfl
  | lo q => exact State.writeLo_agenda s q v
  | hi q =>
    cases q with
    | now => exact (schedEval_frame _).agenda
    | _ => rfl
  | _ => rfl

/-- R96: a register read leaves the agenda alone. -/
theorem afterRead_agenda (s : State) (r : Reg) : (afterRead s r).agenda = s.agenda := by
  cases r with
  | lo q => exact State.latchRead_agenda s q _
  | _ => rfl

/-- R81-R91: a host access that takes effect leaves the agenda alone. -/
theorem hostEffect_agenda {a : HostAccess} {s t : State} (h : HostEffect s a t) : t.agenda = s.agenda := by
  cases h with
  | busError => rfl
  | answered => rfl
  | readReg _ r d => exact afterRead_agenda s r
  | writeReg r w v => exact writeReg_agenda s r v
  | store => rfl

/-- R81: an access inside the block goes on to a next state. -/
theorem hostStep_next {a : HostAccess} (h : a.offset < 0x20000) (s : State) : ∃ t, hostStep a s = .next t := by
  by_cases ho : a.offset < 0x10000
  · have hroute : route a.offset = .reg a.offset := route_register ho
    cases a with
    | read o w => exact ⟨_, hostStep_read_of_reg hroute w s⟩
    | write o w v => exact ⟨_, hostStep_write_of_reg hroute w v s⟩
  · have hroute : route a.offset = .buf (a.offset - 0x10000) := route_buffer (not_lt.1 ho) h
    cases a with
    | read o w => exact ⟨_, hostStep_read_of_buf hroute w s⟩
    | write o w v => exact ⟨_, hostStep_write_of_buf hroute w v s⟩

/-- R81 (log 7): an access outside the block is the model's fault. -/
theorem hostStep_outside {a : HostAccess} (h : 0x20000 ≤ a.offset) (s : State) : hostStep a s = .fault (.outsideBlock a.offset) := by
  have hroute : route a.offset = .outside := route_outside h
  cases a with
  | read o w | write o w v =>
    simp only [HostAccess.offset] at hroute
    rw [hostStep, hroute]
    rfl

/-- R81 (log 7): a step whose next event is an access outside the block faults, busy or not. -/
theorem step_outside {s : State} {a : HostAccess} {rest : List Event} (ha : s.agenda = .host a :: rest) (h : 0x20000 ≤ a.offset) :
    step s = .fault (.outsideBlock a.offset) := by
  rw [step_host ha (holds_outside h), hostStep_outside h]

/-- R211: a tick leaves the agenda alone. -/
theorem tickStep_agenda (s : State) : (tickStep s).agenda = s.agenda := (schedEval_frame _).agenda

/-- The engine's execution goes on and leaves the agenda alone. -/
theorem engineStep_agenda (s : State) : ∃ t, engineStep s = .next t ∧ t.agenda = s.agenda := by
  obtain ⟨t, ht⟩ := engineStep_next s
  obtain ⟨-, hagenda, -⟩ := engineStep_completes ht
  exact ⟨t, ht, hagenda⟩

/-- The engine's turn goes on and leaves the agenda alone, with a command pending or without. -/
theorem engineTurn_agenda (s : State) : ∃ t, engineTurn s = .next t ∧ t.agenda = s.agenda := by
  unfold engineTurn
  split
  · exact engineStep_agenda s
  · exact ⟨s, rfl, rfl⟩

/-- The idle step goes on and leaves the agenda alone. -/
theorem idleStep_agenda (s : State) : ∃ t, idleStep s = .next t ∧ t.agenda = s.agenda := by
  unfold idleStep
  split
  · exact engineStep_agenda s
  · exact ⟨_, rfl, tickStep_agenda s⟩

/-- What a step leaves of the agenda: all of it, or all but its first event. -/
def AgendaAfter (before after : List Event) : Prop := after = before ∨ ∃ e, before = e :: after

/-- R256: a step goes on and uses up at most the first event, unless that is an access outside the block. -/
theorem step_next_or_outside (s : State) :
    (∃ t, step s = .next t ∧ AgendaAfter s.agenda t.agenda) ∨ ∃ a rest, s.agenda = .host a :: rest ∧ 0x20000 ≤ a.offset := by
  cases ha : s.agenda with
  | nil =>
    obtain ⟨t, ht, hagenda⟩ := idleStep_agenda s
    exact .inl ⟨t, (step_idle ha).trans ht, .inl (hagenda.trans ha)⟩
  | cons e rest =>
    cases e with
    | tick => exact .inl ⟨_, step_tick ha, .inr ⟨.tick, by rw [tickStep_agenda]⟩⟩
    | engine =>
      obtain ⟨t, ht, hagenda⟩ := engineTurn_agenda { s with agenda := rest }
      exact .inl ⟨t, (step_engine ha).trans ht, .inr ⟨.engine, by rw [hagenda]⟩⟩
    | host a =>
      by_cases ho : 0x20000 ≤ a.offset
      · exact .inr ⟨a, rest, rfl, ho⟩
      refine .inl ?_
      cases hh : s.holds a with
      | true =>
        obtain ⟨t, ht, hagenda⟩ := engineStep_agenda s
        exact ⟨t, (step_held ha hh).trans ht, .inl (hagenda.trans ha)⟩
      | false =>
        obtain ⟨t, ht⟩ := hostStep_next (not_le.1 ho) { s with agenda := rest }
        exact ⟨t, (step_host ha hh).trans ht, .inr ⟨.host a, by rw [hostEffect_agenda (hostEffect_of_hostStep ht)]⟩⟩

/-- R81: what is left of an agenda inside the block is inside the block. -/
theorem agendaInside_after {s t : State} (h : AgendaAfter s.agenda t.agenda) (hs : s.agendaInside = true) : t.agendaInside = true := by
  unfold State.agendaInside at hs ⊢
  obtain h | ⟨e, h⟩ := h
  · rwa [h]
  · rw [h, List.all_cons, Bool.and_eq_true] at hs
    exact hs.2

/-- R81: the first access of an agenda inside the block is inside it. -/
theorem offset_lt_of_agendaInside {s : State} {a : HostAccess} {rest : List Event} (hs : s.agendaInside = true)
    (ha : s.agenda = .host a :: rest) : a.offset < 0x20000 := by
  rw [State.agendaInside, ha, List.all_cons, Bool.and_eq_true] at hs
  exact of_decide_eq_true hs.1

/-- Settles O59: a step that does not let an access outside the block through goes on, and one that does faults. -/
theorem onlyAnAccessOutsideTheBlockStops : Obligations.OnlyAnAccessOutsideTheBlockStops := by
  unfold Obligations.OnlyAnAccessOutsideTheBlockStops
  refine ⟨fun s hs => ?_, fun s a rest ha ho => step_outside ha ho, fun s r hr => ?_⟩
  · obtain ⟨t, ht, hafter⟩ | ⟨a, rest, ha, ho⟩ := step_next_or_outside s
    · exact ⟨t, ht, agendaInside_after hafter hs⟩
    · exact absurd (offset_lt_of_agendaInside hs ha) (not_lt.2 ho)
  · obtain ⟨t, ht, -⟩ | ⟨a, rest, ha, ho⟩ := step_next_or_outside s
    · cases hr.symm.trans ht
    · cases hr.symm.trans (step_outside ha ho)

end Sys2Proof.Machine

/-! ## The registers over the bus (10_state.md section 2, 20_memory.md R87, R96) -/

namespace Sys2Proof.Machine

/-- The map finds each register at its own offset. -/
theorem regAt_regOffset (r : Reg) : regAt (regOffset r) = some r := by
  cases r with
  | pPoly u | pLen u | pCur u | pReg u => revert u; decide
  | lo q | hi q => cases q <;> decide
  | _ => decide

/-- Every register stands at an aligned offset in register space. -/
theorem regOffset_aligned_lt (r : Reg) : regOffset r % 4 = 0 ∧ regOffset r < 0x10000 := by
  cases r with
  | pPoly u | pLen u | pCur u | pReg u => revert u; decide
  | lo q | hi q => cases q <;> decide
  | _ => decide

/-- R87, R96: an aligned word read at a register's offset answers what the register reads and has that read's effect. -/
theorem step_readReg {s : State} {rest : List Event} {r : Reg} (ha : s.agenda = .host (.read (regOffset r) 4) :: rest) :
    step s = .next ((afterRead { s with agenda := rest } r).respond (readReg s r)) := by
  obtain ⟨halign, hlt⟩ := regOffset_aligned_lt r
  have hread (u : State) : regReadStep (regOffset r) 4 u = (afterRead u r).respond (readReg u r) := by
    simp [regReadStep, regAccessOk, halign, regAt_regOffset]
  rw [step_read_register ha hlt, hread]
  rfl

/-- R87: an aligned word write at a register's offset does that register's write. -/
theorem step_writeReg {s : State} {rest : List Event} {r : Reg} {v : Word} (ha : s.agenda = .host (.write (regOffset r) 4 v) :: rest) :
    step s = .next ((writeReg { s with agenda := rest } r v).respond 0) := by
  obtain ⟨halign, hlt⟩ := regOffset_aligned_lt r
  rw [step_write_register ha hlt, regWriteStep_of_regAt (regAt_regOffset r) halign]

/-- R96: only a read of a `_LO` half has an effect. -/
theorem afterRead_of_not_lo {r : Reg} (h : ∀ q, r ≠ .lo q) (s : State) : afterRead s r = s := by
  cases r with
  | lo q => exact absurd rfl (h q)
  | _ => rfl

/-- R58: `D_PHASE` as the map's table gives it. -/
theorem phaseWord_eq (p : Phase) : phaseWord p = if p = .wait then 1 else 0 := by cases p <;> rfl

/-- The map's table by offsets is the register map read register by register, `STATUS` apart. -/
theorem mapReads_eq (s : State) : Claim.mapReads s = (regList.erase .status).map fun r => (regOffset r, readReg s r) := by
  unfold Claim.mapReads
  rw [← phaseWord_eq]
  rfl

/-- An entry of the map's table is some register's offset and what that register reads. -/
theorem exists_reg_of_mem_mapReads {s : State} {c : Nat × Word} (h : c ∈ Claim.mapReads s) :
    ∃ r, regOffset r = c.1 ∧ readReg s r = c.2 := by
  rw [mapReads_eq, List.mem_map] at h
  obtain ⟨r, -, rfl⟩ := h
  exact ⟨r, rfl, rfl⟩

/-- A register of `n` bits reads back the low bits of the word written (R37, R41, R43). -/
theorem setWidth_extractLsb'_eq_and (v : Word) {n : Nat} (hn : n ≤ 32) :
    (v.extractLsb' 0 n).setWidth 32 = v &&& BitVec.ofNat 32 (2 ^ n - 1) := by
  have hpow : 2 ^ n ≤ 2 ^ 32 := Nat.pow_le_pow_right (by decide) hn
  have hmask : (BitVec.ofNat 32 (2 ^ n - 1)).toNat = 2 ^ n - 1 := Nat.mod_eq_of_lt (by have := Nat.two_pow_pos n; omega)
  refine BitVec.eq_of_toNat_eq ?_
  rw [BitVec.toNat_and, hmask, Nat.and_two_pow_sub_one_eq_mod, BitVec.toNat_setWidth, BitVec.extractLsb'_toNat, Nat.shiftRight_zero]
  exact Nat.mod_eq_of_lt ((Nat.mod_lt _ (Nat.two_pow_pos n)).trans_le hpow)

/-- D37: a read-only register ignores writes. -/
theorem writeReg_readOnly {r : Reg} (h : r ∈ Claim.readOnlyRegs) (s : State) (v : Word) : writeReg s r v = s := by
  cases r with
  | cmd | irqPend | irqEn | ctrl | arg0 | arg1 | arg2 | arg3 | gDin | gCin | gPre | gPost | vIdx | lo q | hi q =>
    simp [Claim.readOnlyRegs] at h
  | _ => rfl

/-- Settles O60: each access is the register's own read or write, and the map's table is the register map. -/
theorem registersReadAndWriteOverTheBus : Obligations.RegistersReadAndWriteOverTheBus := by
  unfold Obligations.RegistersReadAndWriteOverTheBus
  refine ⟨fun s rest r ha => step_readReg ha, fun s rest r v ha => ⟨0, step_writeReg ha⟩, fun s r h => afterRead_of_not_lo h s,
    fun s rest c hc ha => ?_, fun s v => ?_, fun s v r hr => writeReg_readOnly hr s v, rfl⟩
  · obtain ⟨r, hoffset, hvalue⟩ := exists_reg_of_mem_mapReads hc
    rw [← hoffset] at ha
    exact ⟨_, step_readReg ha, by rw [State.respond_resp, hvalue]⟩
  · exact ⟨rfl, rfl, rfl, rfl, rfl, rfl, rfl, rfl, ⟨_, rfl⟩, setWidth_extractLsb'_eq_and v (by decide), ⟨_, rfl⟩,
      setWidth_extractLsb'_eq_and v (by decide), ⟨_, rfl⟩, setWidth_extractLsb'_eq_and v (by decide), rfl, rfl, rfl, rfl, rfl, rfl, rfl⟩

end Sys2Proof.Machine

/-! ## The decoder and the encoder, format by format (30_encoding.md R101-R108) -/

namespace Sys2Proof

/-! ### The fields of an encoded word -/

@[simp] theorem opcField_encodeN (opc : BitVec 8) : opcField (encodeN opc) = opc := BitVec.extractLsb'_append_eq_left

@[simp] theorem opcField_encodeU (opc : BitVec 8) (u : Nat) : opcField (encodeU opc u) = opc := by
  rw [opcField, encodeU, BitVec.extractLsb'_append_eq_of_le (by decide)]
  exact BitVec.extractLsb'_append_eq_left

@[simp] theorem opcField_encodeC (opc : BitVec 8) (u sel : Nat) : opcField (encodeC opc u sel) = opc := by
  rw [opcField, encodeC, BitVec.extractLsb'_append_eq_of_le (by decide), BitVec.extractLsb'_append_eq_of_le (by decide)]
  exact BitVec.extractLsb'_append_eq_left

/-- R103: `U` reads back from a format U word. -/
theorem uField_encodeU (opc : BitVec 8) (u : Nat) : uField (encodeU opc u) = BitVec.ofNat 1 u := by
  rw [uField, encodeU, BitVec.extractLsb'_append_eq_of_le (by decide)]
  exact BitVec.extractLsb'_append_eq_right

/-- R104: `U` reads back from a format C word. -/
theorem uField_encodeC (opc : BitVec 8) (u sel : Nat) : uField (encodeC opc u sel) = BitVec.ofNat 1 u := by
  rw [uField, encodeC, BitVec.extractLsb'_append_eq_of_le (by decide), BitVec.extractLsb'_append_eq_of_le (by decide)]
  exact BitVec.extractLsb'_append_eq_right

/-- R104: `SEL` reads back from a format C word. -/
theorem selField_encodeC (opc : BitVec 8) (u sel : Nat) : selField (encodeC opc u sel) = BitVec.ofNat 2 sel :=
  BitVec.extractLsb'_append_eq_right

/-! ### Decoding a word encoded in the same format -/

/-- R102: a format N word has its reserved bits 0. -/
theorem decodeN_encodeN (opc : BitVec 8) (i : Instr) : decodeN (encodeN opc) i = .ok i :=
  if_pos BitVec.extractLsb'_append_eq_right

/-- R103: a format U word has its reserved bits 0 and gives `U` back. -/
theorem decodeU_encodeU (opc : BitVec 8) {u : Nat} (hu : u < 2) (mk : Nat → Instr) : decodeU (encodeU opc u) mk = .ok (mk u) := by
  have hreserved : (encodeU opc u).extractLsb' 0 23 = 0#23 := BitVec.extractLsb'_append_eq_right
  rw [decodeU, if_pos hreserved, uField_encodeU, BitVec.toNat_ofNat, Nat.mod_eq_of_lt hu]

/-- R104: a format C word has its reserved bits 0 and gives `U` and `SEL` back. -/
theorem decodeC_encodeC (opc : BitVec 8) {u sel : Nat} (hu : u < 2) (hsel : sel < 4) (mk : Nat → Nat → Instr) :
    decodeC (encodeC opc u sel) mk = .ok (mk u sel) := by
  have hreserved : (encodeC opc u sel).extractLsb' 2 21 = 0#21 := by
    rw [encodeC, BitVec.extractLsb'_append_eq_of_le (by decide)]
    exact BitVec.extractLsb'_append_eq_right
  rw [decodeC, if_pos hreserved, uField_encodeC, selField_encodeC, BitVec.toNat_ofNat, BitVec.toNat_ofNat, Nat.mod_eq_of_lt hu,
    Nat.mod_eq_of_lt hsel]

/-- Settles O1: the opcode of the encoded word selects the row of the instruction, and the format gives the fields back. -/
theorem decodeOfEncodeIsTheInstruction : Obligations.DecodeOfEncodeIsTheInstruction := by
  unfold Obligations.DecodeOfEncodeIsTheInstruction
  intro i hwf
  cases i with
  | pcfg u sel =>
    obtain ⟨hu, hsel⟩ : u < 2 ∧ sel < 4 := by simpa [Instr.wellFormed] using hwf
    rw [encode, decode, opcField_encodeC]
    exact decodeC_encodeC _ hu hsel _
  | pgen u | pgeno u | pseq u =>
    rw [encode, decode, opcField_encodeU]
    exact decodeU_encodeU _ (of_decide_eq_true hwf) _
  | _ =>
    rw [encode, decode, opcField_encodeN]
    exact decodeN_encodeN _ _

/-! ### What each format decodes -/

/-- R107: a format decodes when its test of the reserved bits passes, and then to its row's command. -/
theorem ok_if_eq_ok_iff {c : Prop} [Decidable c] {e : DecodeError} {i j : Instr} :
    (if c then .ok i else .error e : Except DecodeError Instr) = .ok j ↔ c ∧ i = j := by
  split <;> simp [*]

/-- R102, R107: format N decodes exactly the words whose reserved bits are 0. -/
theorem decodeN_eq_ok_iff {w : Word} {i j : Instr} : decodeN w i = .ok j ↔ w.extractLsb' 0 24 = 0#24 ∧ i = j := ok_if_eq_ok_iff

/-- R103, R107: format U decodes exactly the words whose reserved bits are 0. -/
theorem decodeU_eq_ok_iff {w : Word} {mk : Nat → Instr} {j : Instr} :
    decodeU w mk = .ok j ↔ w.extractLsb' 0 23 = 0#23 ∧ mk (uField w).toNat = j := ok_if_eq_ok_iff

/-- R104, R107: format C decodes exactly the words whose reserved bits are 0. -/
theorem decodeC_eq_ok_iff {w : Word} {mk : Nat → Nat → Instr} {j : Instr} :
    decodeC w mk = .ok j ↔ w.extractLsb' 2 21 = 0#21 ∧ mk (uField w).toNat (selField w).toNat = j := ok_if_eq_ok_iff

/-! ### A word is put together from its fields -/

/-- R102: a word with bits 23:0 zero is the format N word of its opcode. -/
theorem encodeN_opcField {w : Word} (h : w.extractLsb' 0 24 = 0#24) : encodeN (opcField w) = w := by
  rw [encodeN, opcField, ← h, BitVec.extractLsb'_append_extractLsb'_eq_extractLsb']
  · exact BitVec.extractLsb'_eq_self
  all_goals rfl

/-- R103: a word with bits 22:0 zero is the format U word of its opcode and `U`. -/
theorem encodeU_fields {w : Word} (h : w.extractLsb' 0 23 = 0#23) : encodeU (opcField w) (uField w).toNat = w := by
  rw [encodeU, BitVec.ofNat_toNat, BitVec.setWidth_eq, opcField, uField, ← h,
    BitVec.extractLsb'_append_extractLsb'_eq_extractLsb', BitVec.extractLsb'_append_extractLsb'_eq_extractLsb']
  · exact BitVec.extractLsb'_eq_self
  all_goals rfl

/-- R104: a word with bits 22:2 zero is the format C word of its opcode, `U` and `SEL`. -/
theorem encodeC_fields {w : Word} (h : w.extractLsb' 2 21 = 0#21) :
    encodeC (opcField w) (uField w).toNat (selField w).toNat = w := by
  rw [encodeC, BitVec.ofNat_toNat, BitVec.setWidth_eq, BitVec.ofNat_toNat, BitVec.setWidth_eq, opcField, uField, selField, ← h,
    BitVec.extractLsb'_append_extractLsb'_eq_extractLsb', BitVec.extractLsb'_append_extractLsb'_eq_extractLsb',
    BitVec.extractLsb'_append_extractLsb'_eq_extractLsb']
  · exact BitVec.extractLsb'_eq_self
  all_goals rfl

/-! ### What the decoder can answer, said once: the opcode selects a row of R106, and the row's format reads the word -/

/-- R108: how a word's decoding `r` comes about. -/
inductive DecodeCase (w : Word) (r : Except DecodeError Instr) : Prop where
  /-- R107: no row of the opcode map has this opcode. -/
  | unassigned (hformat : formatOf (opcField w).toNat = none) (hr : r = .error (.unassignedOpcode (opcField w)))
  /-- R102: the row of `i`, in format N. -/
  | formatN (i : Instr) (hformat : formatOf (opcField w).toNat = some .n) (hr : r = decodeN w i) (hwf : i.wellFormed = true)
      (hencode : encode i = encodeN (opcField w))
  /-- R103: the row of the commands `mk u`, in format U. -/
  | formatU (mk : Nat → Instr) (hformat : formatOf (opcField w).toNat = some .u) (hr : r = decodeU w mk)
      (hwf : ∀ u < 2, (mk u).wellFormed = true) (hencode : ∀ u, encode (mk u) = encodeU (opcField w) u)
  /-- R104: the row of the commands `mk u sel`, in format C. -/
  | formatC (mk : Nat → Nat → Instr) (hformat : formatOf (opcField w).toNat = some .c) (hr : r = decodeC w mk)
      (hwf : ∀ u < 2, ∀ sel < 4, (mk u sel).wellFormed = true) (hencode : ∀ u sel, encode (mk u sel) = encodeC (opcField w) u sel)

/-- R101: an opcode field is the literal it is equal to as a number. -/
theorem opcField_eq_ofNat {w : Word} {n : Nat} (h : (opcField w).toNat = n) : opcField w = BitVec.ofNat 8 n := by
  rw [← h, BitVec.ofNat_toNat, BitVec.setWidth_eq]

/-- R106: every word's decoding is by the row that its opcode selects, or by none. -/
theorem decode_cases (w : Word) : DecodeCase w (decode w) := by
  unfold decode
  split
  -- the arms are numbered in the order of R106: 2 is PCFG, 3 to 5 are the commands of format U, and 18 is no row
  case h_2 hopc =>
    refine .formatC .pcfg (by rw [hopc]; rfl) rfl (fun u hu sel hsel => ?_) fun u sel => by rw [opcField_eq_ofNat hopc]; rfl
    simp [Instr.wellFormed, hu, hsel]
  case h_3 hopc | h_4 hopc | h_5 hopc =>
    exact .formatU _ (by rw [hopc]; rfl) rfl (fun u hu => decide_eq_true hu) fun u => by rw [opcField_eq_ofNat hopc]; rfl
  case h_18 =>
    refine .unassigned ?_ rfl
    rw [formatOf, if_neg, if_neg, if_neg] <;> grind
  all_goals
    rename_i hopc
    exact .formatN _ (by rw [hopc]; rfl) rfl rfl (by rw [opcField_eq_ofNat hopc]; rfl)

/-- Settles O2: the row's format leaves only the fields free, and the word is put together from them. -/
theorem decodedInstructionHasOnlyThatWord : Obligations.DecodedInstructionHasOnlyThatWord := by
  unfold Obligations.DecodedInstructionHasOnlyThatWord
  intro w i h
  cases decode_cases w with
  | unassigned _ hr => cases h.symm.trans hr
  | formatN j _ hr hwf hencode =>
    obtain ⟨hreserved, rfl⟩ := decodeN_eq_ok_iff.1 (hr.symm.trans h)
    exact ⟨hwf, hencode.trans (encodeN_opcField hreserved)⟩
  | formatU mk _ hr hwf hencode =>
    obtain ⟨hreserved, rfl⟩ := decodeU_eq_ok_iff.1 (hr.symm.trans h)
    exact ⟨hwf _ (uField w).isLt, (hencode _).trans (encodeU_fields hreserved)⟩
  | formatC mk _ hr hwf hencode =>
    obtain ⟨hreserved, rfl⟩ := decodeC_eq_ok_iff.1 (hr.symm.trans h)
    exact ⟨hwf _ (uField w).isLt _ (selField w).isLt, (hencode _ _).trans (encodeC_fields hreserved)⟩

/-! ### Legal words -/

/-- R107: the bits a mask selects are 0 exactly when the field they form is 0. -/
theorem and_mask_eq_zero_iff {m : Word} {lo n : Nat} (hm : ∀ i < 32, m.getLsbD i = decide (lo ≤ i ∧ i < lo + n)) (hn : lo + n ≤ 32)
    (w : Word) : w &&& m = 0 ↔ w.extractLsb' lo n = 0#n := by
  constructor
  · refine fun h => BitVec.eq_of_getLsbD_eq fun i hi => ?_
    have hbit : (w &&& m).getLsbD (lo + i) = false := by rw [h]; exact BitVec.getLsbD_zero
    rw [BitVec.getLsbD_and, hm _ (by omega), decide_eq_true (by omega), Bool.and_true] at hbit
    simp [hbit]
  · refine fun h => BitVec.eq_of_getLsbD_eq fun i hi => ?_
    rw [BitVec.getLsbD_and, hm i hi, BitVec.ofNat_eq_ofNat, BitVec.getLsbD_zero]
    by_cases hin : lo ≤ i ∧ i < lo + n
    · have hbit : (w.extractLsb' lo n).getLsbD (i - lo) = false := by rw [h]; exact BitVec.getLsbD_zero
      rw [BitVec.getLsbD_extractLsb', decide_eq_true (by omega), Bool.true_and, Nat.add_sub_cancel' hin.1] at hbit
      rw [hbit, Bool.false_and]
    · rw [decide_eq_false hin, Bool.and_false]

/-- R101: the opcode is the word's value above bit 24. -/
theorem toNat_opcField (w : Word) : (opcField w).toNat = w.toNat / 2 ^ 24 := by
  rw [opcField, BitVec.extractLsb'_toNat, Nat.shiftRight_eq_div_pow]
  exact Nat.mod_eq_of_lt (by omega)

/-- R107: a word whose opcode is unassigned is not legal. -/
theorem legalWord_of_unassigned {w : Word} (h : formatOf (opcField w).toNat = none) : legalWord w = false := by
  rw [legalWord, ← toNat_opcField, h]

/-- R107: a word whose opcode is assigned is legal when its format's reserved bits are 0. -/
theorem legalWord_iff_of_format {w : Word} {f : Format} (h : formatOf (opcField w).toNat = some f) :
    legalWord w = true ↔ w &&& f.reserved = 0 := by
  rw [legalWord, ← toNat_opcField, h]
  exact beq_iff_eq

/-- Settles O3: the decoder's test of a format's reserved field is the legal word's test of its reserved mask. -/
theorem wordDecodesExactlyWhenLegal : Obligations.WordDecodesExactlyWhenLegal := by
  unfold Obligations.WordDecodesExactlyWhenLegal
  intro w
  cases decode_cases w with
  | unassigned hformat hr => simp [hr, legalWord_of_unassigned hformat]
  | formatN i hformat hr =>
    rw [legalWord_iff_of_format hformat, and_mask_eq_zero_iff (lo := 0) (n := 24) (by decide) (by decide), hr]
    simp [decodeN_eq_ok_iff]
  | formatU mk hformat hr =>
    rw [legalWord_iff_of_format hformat, and_mask_eq_zero_iff (lo := 0) (n := 23) (by decide) (by decide), hr]
    simp [decodeU_eq_ok_iff]
  | formatC mk hformat hr =>
    rw [legalWord_iff_of_format hformat, and_mask_eq_zero_iff (lo := 2) (n := 21) (by decide) (by decide), hr]
    simp [decodeC_eq_ok_iff]

/-- Settles O5, a closed fact about eight words: the legal ones are their commands' own encodings (R106). -/
theorem specWordsDecodeAsListed : Obligations.SpecWordsDecodeAsListed := by
  unfold Obligations.SpecWordsDecodeAsListed
  have hencoded (i : Instr) (hwf : i.wellFormed = true) : decode (encode i) = .ok i := decodeOfEncodeIsTheInstruction i hwf
  exact ⟨hencoded .nop rfl, hencoded (.pcfg 1 3) rfl, hencoded (.pgen 1) rfl, hencoded .gencf rfl, hencoded .vpkt rfl, hencoded .dstart rfl,
    by decide, by decide⟩

end Sys2Proof

/-! ## An illegal word, and the end of a pending command (30_encoding.md R100, R107) -/

namespace Sys2Proof.Machine

/-- R107: a word that is not legal has no command. -/
theorem decode_error_of_not_legal {w : Word} (h : legalWord w = false) : ∃ e, decode w = .error e := by
  cases hd : decode w with
  | error e => exact ⟨e, rfl⟩
  | ok i => simp [(wordDecodesExactlyWhenLegal w).1 ⟨i, hd⟩] at h

/-- R241, R243: completing with an error is failing with that error's code. -/
theorem complete_error_eq_failed (s : State) (e : CmdError) : s.complete (some e) = Claim.failed s (resultCode (some e)) := rfl

/-- R107, R242: the engine completes an illegal word with `ILLEGAL_CMD`. -/
theorem engineStep_illegal {s : State} (h : legalWord s.ctl.cmd = false) : engineStep s = .next (Claim.failed s 0x01) := by
  obtain ⟨e, he⟩ := decode_error_of_not_legal h
  rw [engineStep, he]
  exact congrArg _ (complete_error_eq_failed s .illegalCmd)

/-- R231 (log 1): with a command pending and nothing on the agenda, the step executes the command. -/
theorem step_idle_busy {s : State} (ha : s.agenda = []) (hbusy : s.ctl.busy = true) : step s = engineStep s :=
  (step_idle ha).trans (if_pos hbusy)

/-- R231, R256: with a command pending, the engine's turn executes it. -/
theorem step_engine_busy {s : State} {rest : List Event} (ha : s.agenda = .engine :: rest) (hbusy : s.ctl.busy = true) :
    step s = engineStep { s with agenda := rest } := (step_engine ha).trans (if_pos hbusy)

/-- Settles O4: an illegal word does not decode, so the engine only completes it. -/
theorem illegalWordOnlyCompletesWithIllegalCmd : Obligations.IllegalWordOnlyCompletesWithIllegalCmd := by
  unfold Obligations.IllegalWordOnlyCompletesWithIllegalCmd
  refine fun s h => ⟨engineStep_illegal h, fun rest hbusy ha => ?_⟩
  exact (step_engine_busy ha hbusy).trans (engineStep_illegal h)

/-- R100, R256: a step after which a command is still pending was no execution, and used up the first event. -/
theorem agenda_of_step_still_busy {s t : State} (hbusy : s.ctl.busy = true) (ht : step s = .next t) (hstill : t.ctl.busy = true) :
    ∃ e, s.agenda = e :: t.agenda := by
  have hexecuted {u : State} (h : engineStep u = .next t) : False := by simp [(engineStep_completes h).1] at hstill
  cases ha : s.agenda with
  | nil => exact (hexecuted ((step_idle_busy ha hbusy).symm.trans ht)).elim
  | cons e rest =>
    cases e with
    | tick =>
      cases (step_tick ha).symm.trans ht
      exact ⟨.tick, by rw [tickStep_agenda]⟩
    | engine => exact (hexecuted ((step_engine_busy ha hbusy).symm.trans ht)).elim
    | host a =>
      cases hh : s.holds a with
      | true => exact (hexecuted ((step_held ha hh).symm.trans ht)).elim
      | false =>
        have heffect := hostEffect_of_hostStep ((step_host ha hh).symm.trans ht)
        exact ⟨.host a, by rw [hostEffect_agenda heffect]⟩

/-- A run begins with a step. -/
theorem run_succ {s t : State} (h : step s = .next t) (k : Nat) : Host.Core.run core (k + 1) s = Host.Core.run core k t := by
  have hcore : core.step s = .next t := h
  simp only [Host.Core.run, hcore]

/-- Settles O13, by induction on the agenda's length: each step that does not end the command uses up an event. -/
theorem pendingCommandEndsWithinTheAgenda : Obligations.PendingCommandEndsWithinTheAgenda := by
  unfold Obligations.PendingCommandEndsWithinTheAgenda
  intro s
  induction hn : s.agenda.length using Nat.strong_induction_on generalizing s with
  | h n ih =>
    subst hn
    intro hbusy hinside
    obtain ⟨t, ht, htinside⟩ := onlyAnAccessOutsideTheBlockStops.1 s hinside
    cases hstill : t.ctl.busy with
    | false => exact ⟨1, t, Nat.le_add_left 1 _, run_succ ht 0, hstill⟩
    | true =>
      obtain ⟨e, hagenda⟩ := agenda_of_step_still_busy hbusy ht hstill
      have hlength : s.agenda.length = t.agenda.length + 1 := by rw [hagenda, List.length_cons]
      obtain ⟨k, u, hk, hrun, hdone⟩ := ih t.agenda.length (by omega) t rfl hstill htinside
      exact ⟨k + 1, u, by omega, (run_succ ht k).trans hrun, hdone⟩

end Sys2Proof.Machine

/-! ## The shift register and its sequence (40_prbs.md R120-R122) -/

namespace Sys2Proof.Machine

open Sys2Proof.Claim

/-- R120: every degree fits below the register's top bit. -/
theorem prbsDegree_le (sel : BitVec 2) : prbsDegree sel ≤ 31 := by
  revert sel
  decide

/-- R122: the seed is all ones up to the degree. -/
theorem prbsSeed_getLsbD (sel : BitVec 2) (k : Nat) : (prbsSeed sel).getLsbD k = decide (k < prbsDegree sel) := by
  have hle := prbsDegree_le sel
  rw [prbsSeed, BitVec.getLsbD_ofNat, Nat.testBit_two_pow_sub_one, ← Bool.decide_and]
  exact decide_eq_decide.2 (by omega)

/-- R122: a step shifts the register up by one bit, the feedback bit comes in below, and the degree cuts it off above. -/
theorem lfsrNext_getLsbD (sel : BitVec 2) (reg : Word) (k : Nat) :
    (lfsrNext sel reg).getLsbD k = (decide (k < prbsDegree sel) && if k = 0 then lfsrBit sel reg else reg.getLsbD (k - 1)) := by
  have hle := prbsDegree_le sel
  rw [lfsrNext, BitVec.getLsbD_ofNat, Nat.testBit_mod_two_pow, ← Bool.and_assoc, ← Bool.decide_and,
    decide_eq_decide.2 (show k < 32 ∧ k < prbsDegree sel ↔ k < prbsDegree sel by omega)]
  congr 1
  cases k with
  | zero => cases lfsrBit sel reg <;> simp [Nat.testBit_zero]
  | succ k =>
    have hhalf : (2 * reg.toNat + (lfsrBit sel reg).toNat) / 2 = reg.toNat := by
      have := (lfsrBit sel reg).toNat_lt
      omega
    rw [Nat.testBit_succ, hhalf, BitVec.testBit_toNat, if_neg k.succ_ne_zero, Nat.add_sub_cancel]

/-- R121: going one bit further back from one bit further on reaches the same element. -/
theorem seqBefore_succ_succ (sel : BitVec 2) (t k : Nat) : seqBefore sel (t + 1) (k + 1) = seqBefore sel t k := by
  simp only [seqBefore, Nat.add_le_add_iff_right, Nat.add_sub_add_right]

/-- R122: before bit `t` the register holds the elements `1 .. n` bits back, for every tap set: the induction that the
shift register and the recurrence share. -/
theorem lfsrReg_getLsbD (sel : BitVec 2) (t k : Nat) :
    (lfsrReg sel t).getLsbD k = (decide (k < prbsDegree sel) && seqBefore sel t (k + 1)) := by
  induction t generalizing k with
  | zero => simp [lfsrReg, prbsSeed_getLsbD, seqBefore]
  | succ t ih =>
    rw [lfsrReg, lfsrNext_getLsbD, seqBefore_succ_succ]
    cases k with
    | zero => simp [seqBefore, prbsBit]
    | succ k =>
      rw [if_neg k.succ_ne_zero, Nat.add_sub_cancel, ih, ← Bool.and_assoc, ← Bool.decide_and,
        decide_eq_decide.2 (show k + 1 < prbsDegree sel ∧ k < prbsDegree sel ↔ k + 1 < prbsDegree sel by omega)]

/-- R120: the polynomials with their inner tap and their degree. -/
def prbsTrinomials : List (BitVec 2 × Nat × Nat) := [(0, 6, 7), (1, 14, 15), (2, 18, 23), (3, 28, 31)]

/-- R120, R121: the degree of each polynomial is its largest tap, and the inner tap lies below it. -/
theorem prbsDegree_eq {p : BitVec 2 × Nat × Nat} (h : p ∈ prbsTrinomials) : prbsDegree p.1 = p.2.2 ∧ 1 ≤ p.2.1 ∧ p.2.1 ≤ p.2.2 := by
  revert p
  decide

/-- R122: the feedback bit of each polynomial is the exclusive or of its two taps. -/
theorem lfsrBit_eq_xor {p : BitVec 2 × Nat × Nat} (h : p ∈ prbsTrinomials) (reg : Word) :
    lfsrBit p.1 reg = xor (reg.getLsbD (p.2.1 - 1)) (reg.getLsbD (p.2.2 - 1)) := by
  simp only [prbsTrinomials, List.mem_cons, List.not_mem_nil, or_false] at h
  obtain rfl | rfl | rfl | rfl := h <;> simp [lfsrBit, prbsTaps, Config.prbsPoly]

/-- Settles O25: the register holds the last elements of the sequence, and the feedback bit is the exclusive or of two of them. -/
theorem lfsrProducesTheRecurrence : Obligations.LfsrProducesTheRecurrence := by
  unfold Obligations.LfsrProducesTheRecurrence
  intro p hp t
  obtain ⟨hdeg, hpos, hle⟩ := prbsDegree_eq hp
  have hreg (k : Nat) (h1 : 1 ≤ k) (hk : k ≤ p.2.2) : (lfsrReg p.1 t).getLsbD (k - 1) = seqBefore p.1 t k := by
    rw [lfsrReg_getLsbD, hdeg, decide_eq_true (by omega), Bool.true_and, Nat.sub_add_cancel h1]
  refine ⟨?_, hreg, fun k hk => ?_⟩
  · rw [prbsBit, lfsrBit_eq_xor hp, hreg _ hpos hle, hreg _ (hpos.trans hle) le_rfl]
  · rw [lfsrReg_getLsbD, hdeg, decide_eq_false (by omega), Bool.false_and]

end Sys2Proof.Machine

/-! ## The PRBS commands: their words, what their rules answer, and the bits they leave in BUF (40_prbs.md R123-R130) -/

namespace Sys2Proof.Machine

open Sys2Proof.Claim

/-! ### The command words (R103, R104, R106) -/

/-- R22: the value of two bit vectors side by side. -/
theorem toNat_append_eq {m n : Nat} (x : BitVec m) (y : BitVec n) : (x ++ y).toNat = x.toNat * 2 ^ n + y.toNat := by
  rw [BitVec.toNat_append, ← Nat.shiftLeft_add_eq_or_of_lt y.isLt, Nat.shiftLeft_eq]

/-- R103: a format U word as a number. -/
theorem encodeU_eq_ofNat (opc : BitVec 8) {u : Nat} (hu : u < 2) : encodeU opc u = BitVec.ofNat 32 (opc.toNat * 2 ^ 24 + u * 2 ^ 23) := by
  refine BitVec.eq_of_toNat_eq ?_
  have hopc := opc.isLt
  simp only [encodeU, toNat_append_eq, BitVec.toNat_ofNat]
  omega

/-- R104: a format C word as a number. -/
theorem encodeC_eq_ofNat (opc : BitVec 8) {u sel : Nat} (hu : u < 2) (hsel : sel < 4) :
    encodeC opc u sel = BitVec.ofNat 32 (opc.toNat * 2 ^ 24 + u * 2 ^ 23 + sel) := by
  refine BitVec.eq_of_toNat_eq ?_
  have hopc := opc.isLt
  simp only [encodeC, toNat_append_eq, BitVec.toNat_ofNat]
  omega

/-- R103, R106: the word of a unit command, written as its opcode and its unit, decodes to it. -/
theorem decode_unitWord {i : Instr} {opc : BitVec 8} {u : Nat} (henc : encode i = encodeU opc u) (hu : u < 2) (hwf : i.wellFormed = true) :
    decode (BitVec.ofNat 32 (opc.toNat * 2 ^ 24 + u * 2 ^ 23)) = .ok i := by
  rw [← encodeU_eq_ofNat opc hu, ← henc]
  exact decodeOfEncodeIsTheInstruction i hwf

/-- R104, R106: the word of `PCFG`, written as its opcode, its unit and its polynomial, decodes to it. -/
theorem decode_pcfgWord {u sel : Nat} (hu : u < 2) (hsel : sel < 4) :
    decode (BitVec.ofNat 32 (0x10000000 + u * 2 ^ 23 + sel)) = .ok (.pcfg u sel) := by
  have hword : encode (.pcfg u sel) = BitVec.ofNat 32 (0x10000000 + u * 2 ^ 23 + sel) := encodeC_eq_ofNat 0x10 hu hsel
  rw [← hword]
  exact decodeOfEncodeIsTheInstruction _ (by simp [Instr.wellFormed, hu, hsel])

/-! ### How a command ends, and what its completion leaves (R241, R243) -/

/-- R243: a rule that raises an error fails the command with the error's code. -/
theorem exec_failed {i : Instr} {s : State} {e : CmdError} (h : ruleOf i s = .error e) :
    exec i s = .next (failed s (resultCode (some e))) := exec_of_error h

/-- R241: the code after a completion is its outcome's. -/
theorem codeOf_complete (r : State) (e : Option CmdError) : codeOf (r.complete e) = resultCode e := resultWord_code _ e

/-- R241, R243: a command that ends with OK has reached the end of its rule. -/
theorem ruleOf_ok_of_codeOf {i : Instr} {s t : State} (h : exec i s = .next t) (hcode : codeOf t = 0) :
    ∃ r, ruleOf i s = .ok r ∧ t = r.complete none := by
  obtain hok | ⟨e, -, rfl⟩ := exec_next_cases h
  · exact hok
  · rw [codeOf_complete, resultCode_eq_zero] at hcode
    cases hcode

/-- R241: the control block after a command that writes no result register. -/
theorem complete_ctl {s r : State} (h : r.ctl = s.ctl) : (r.complete none).ctl = doneCtl s.ctl := by
  rw [← h]
  rfl

/-- R40, R241: the control block after a command whose only result is `RES0`. -/
theorem complete_setRes0_ctl {s r : State} (h : r.ctl = s.ctl) (v : Nat) :
    ((r.setRes0 v).complete none).ctl = { doneCtl s.ctl with res0 := BitVec.ofNat 32 v } := by
  rw [← h]
  rfl

@[simp] theorem State.complete_prbs (s : State) (e : Option CmdError) (u : Nat) : (s.complete e).prbs u = s.prbs u := rfl
@[simp] theorem State.setRes0_prbs (s : State) (v u : Nat) : (s.setRes0 v).prbs u = s.prbs u := rfl

/-- R48: writing a unit leaves the other one alone. -/
theorem State.setPrbs_prbs_other (s : State) {u : Nat} (hu : u < 2) (p : PrbsUnit) : (s.setPrbs u p).prbs (1 - u) = s.prbs (1 - u) := by
  obtain rfl | rfl : u = 0 ∨ u = 1 := by omega
  · rfl
  · rfl

/-- R127, R128: a command whose effect is on BUF and `RES0` alone leaves every unit alone. -/
theorem keepsUnits_store (s : State) (a : Nat) (bs : List Byte) (v : Nat) : keepsUnits s (((s.store a bs).setRes0 v).complete none) := by
  simp [keepsUnits, keepsAllButGolay, keepsRest]

/-! ### What each rule answers, condition by condition (R125-R128) -/

section
variable {u sel : Nat} {s : State}

theorem pcfgRule_of_zero (h : s.a0 = 0) : pcfgRule u sel s = .error .invalidConfig := if_pos (.inl h)

/-- R125: no cycle length above `MAX_CYCLE_LEN` fits the operand. -/
theorem pcfgRule_of_ne_zero (h : s.a0 ≠ 0) :
    pcfgRule u sel s = .ok (s.setPrbs u (PrbsUnit.configured (BitVec.ofNat 2 sel) s.ctl.snap.arg0)) := by
  have hmax : ¬ Config.maxCycleLen < s.a0 := Nat.not_lt.2 (Nat.le_of_lt_succ s.ctl.snap.arg0.isLt)
  exact if_neg (not_or.2 ⟨h, hmax⟩)

theorem pgenRule_of_unconfigured (h : (s.prbs u).len = 0) : pgenRule u s = .error .notConfigured := if_pos h

theorem pgenRule_of_outOfBounds (h : (s.prbs u).len ≠ 0) (hb : inBounds s.a0 (byteCount s.a1) = false) :
    pgenRule u s = .error .bounds := (if_neg h).trans (if_pos hb)

theorem pgenRule_of_inBounds (h : (s.prbs u).len ≠ 0) (hb : inBounds s.a0 (byteCount s.a1) = true) :
    pgenRule u s = .ok (((s.store s.a0 (pack ((s.prbs u).bits (s.prbs u).cur.toNat s.a1))).setPrbs u
      ((s.prbs u).advance s.a1)).setRes0 (byteCount s.a1)) := (if_neg h).trans (if_neg (ne_false_of_eq_true hb))

theorem pgenoRule_of_unconfigured (h : (s.prbs u).len = 0) : pgenoRule u s = .error .notConfigured := if_pos h

theorem pgenoRule_of_outOfBounds (h : (s.prbs u).len ≠ 0) (hb : inBounds s.a0 (byteCount s.a1) = false) :
    pgenoRule u s = .error .bounds := (if_neg h).trans (if_pos hb)

theorem pgenoRule_of_inBounds (h : (s.prbs u).len ≠ 0) (hb : inBounds s.a0 (byteCount s.a1) = true) :
    pgenoRule u s = .ok ((s.store s.a0 (pack ((s.prbs u).bits s.bitOffset s.a1))).setRes0 (byteCount s.a1)) :=
  (if_neg h).trans (if_neg (ne_false_of_eq_true hb))

theorem pseqRule_of_unconfigured (h : (s.prbs u).len = 0) : pseqRule u s = .error .notConfigured := if_pos h

theorem pseqRule_of_badLength (h : (s.prbs u).len ≠ 0) (hL : s.a2 = 0 ∨ s.a2 % 8 ≠ 0) : pseqRule u s = .error .invalidConfig :=
  (if_neg h).trans (if_pos hL)

theorem pseqRule_of_outOfBounds (h : (s.prbs u).len ≠ 0) (hz : s.a2 ≠ 0) (hL : s.a2 % 8 = 0) (hb : inBounds s.a0 (4 + s.a2 / 8) = false) :
    pseqRule u s = .error .bounds := (if_neg h).trans ((if_neg (by simp [hz, hL])).trans (if_pos hb))

theorem pseqRule_of_inBounds (h : (s.prbs u).len ≠ 0) (hz : s.a2 ≠ 0) (hL : s.a2 % 8 = 0) (hb : inBounds s.a0 (4 + s.a2 / 8) = true) :
    pseqRule u s = .ok ((s.store s.a0 ((s.prbs u).packet s.a1 s.a2)).setRes0 (4 + s.a2 / 8)) :=
  (if_neg h).trans ((if_neg (by simp [hz, hL])).trans (if_neg (ne_false_of_eq_true hb)))

end

/-- Settles O26: the seed of each polynomial is the listed value, and the rule writes the unit alone. -/
theorem pcfgConfiguresTheUnit : Obligations.PcfgConfiguresTheUnit := by
  unfold Obligations.PcfgConfiguresTheUnit
  intro u sel s hu hsel
  have hseed : prbsSeed (BitVec.ofNat 2 sel) = [0x7F, 0x7FFF, 0x7FFFFF, 0x7FFFFFFF].getD sel 0 := by
    revert sel
    decide
  refine ⟨decode_pcfgWord hu hsel, fun h => exec_failed (i := .pcfg u sel) (pcfgRule_of_zero h), fun h => ?_⟩
  refine ⟨_, exec_of_ok (i := .pcfg u sel) (pcfgRule_of_ne_zero h), ?_, s.setPrbs_prbs_other hu _, complete_ctl (s.setPrbs_ctl u _),
    by simp, by simp, by simp, by simp [keepsRest], fun x => ?_⟩
  · rw [State.complete_prbs, State.setPrbs_prbs, ← hseed]
    rfl
  · rw [State.byteAt, State.complete_buf, State.setPrbs_buf, State.byteAt]

/-! ### Stream bits in BUF (R18, R123, R130) -/

/-- R123: bit `i` of a piece of a unit's stream. -/
theorem PrbsUnit.bits_getD (p : PrbsUnit) (x : Nat) {n i : Nat} (h : i < n) : (p.bits x n).getD i false = p.stream (x + i) := by
  simp [PrbsUnit.bits, List.getD, h]

/-- R123: the stream depends on the polynomial and the cycle length alone. -/
theorem PrbsUnit.bits_congr {p q : PrbsUnit} (hpoly : p.poly = q.poly) (hlen : p.len = q.len) : p.bits = q.bits := by
  unfold PrbsUnit.bits PrbsUnit.stream
  rw [hpoly, hlen]

/-- R126, R127: the `n` bits at `a` are those of the unit's stream from position `x` on, and the last byte is padded with zeros. -/
structure WritesStream (t : State) (a : Nat) (p : PrbsUnit) (x n : Nat) : Prop where
  bits : ∀ i < n, bitAt t a i = prbsBit p.poly ((x + i) % p.len.toNat)
  pad : ∀ i, n ≤ i → i < 8 * ((n + 7) / 8) → bitAt t a i = false

/-- R18, R20: a packed stream stored in BUF is there bit by bit. -/
theorem bitAt_of_buf {t : State} {m : Memory} {a i : Nat} {b : List Bool} (hbuf : t.buf = m.writeBytes a (pack b))
    (hi : i < 8 * byteCount b.length) : bitAt t a i = b.getD i false := by
  rw [bitAt, State.byteAt, hbuf, Memory.byte_writeBytes_inside _ _ _ _ (by rw [pack_length]; omega), pack_bit b i hi]

theorem writesStream_of_buf {t : State} {m : Memory} {a x n : Nat} {p : PrbsUnit} (hbuf : t.buf = m.writeBytes a (pack (p.bits x n))) :
    WritesStream t a p x n where
  bits i hi := by
    rw [bitAt_of_buf hbuf (by rw [PrbsUnit.bits_length]; unfold byteCount; omega), PrbsUnit.bits_getD p x hi, PrbsUnit.stream]
  pad i hn hi := by
    rw [bitAt_of_buf hbuf (by rw [PrbsUnit.bits_length]; exact hi)]
    exact List.getD_eq_default _ _ (by rw [PrbsUnit.bits_length]; exact hn)

/-- R20: bytes stored in BUF leave every byte outside their range alone. -/
theorem keepsOutside_of_buf {s t : State} {a n : Nat} {bs : List Byte} (hbuf : t.buf = s.buf.writeBytes a bs) (hlen : bs.length = n) :
    keepsOutside s t a n := by
  intro x hx
  rw [State.byteAt, hbuf, Memory.byte_writeBytes_outside _ _ _ _ (hlen ▸ hx), State.byteAt]

/-- R126: the cursor after `n` bits stays inside the cycle. -/
theorem PrbsUnit.advance_cur_toNat {p : PrbsUnit} (h : p.len ≠ 0) (n : Nat) :
    (p.advance n).cur.toNat = (p.cur.toNat + n) % p.len.toNat := by
  have hpos : 0 < p.len.toNat := Nat.pos_of_ne_zero fun h0 => h (BitVec.eq_of_toNat_eq h0)
  exact (BitVec.toNat_ofNat _ _).trans (Nat.mod_eq_of_lt ((Nat.mod_lt _ hpos).trans p.len.isLt))

/-- R129: moving `n` bits and then `m` bits is moving `n + m` bits. -/
theorem PrbsUnit.advance_advance {p : PrbsUnit} (h : p.len ≠ 0) (n m : Nat) : (p.advance n).advance m = p.advance (n + m) := by
  have hcur : ((p.advance n).cur.toNat + m) % p.len.toNat = (p.cur.toNat + (n + m)) % p.len.toNat := by
    rw [advance_cur_toNat h, Nat.mod_add_mod, Nat.add_assoc]
  unfold PrbsUnit.advance at hcur ⊢
  simp only [hcur]

/-! ### The commands (R126-R129) -/

/-- R126: what a `PGEN` that reaches its end leaves in BUF and in its unit: the stream from the cursor on, and the unit moved on. -/
theorem pgenRule_writes {u : Nat} {s r : State} (h : pgenRule u s = .ok r) :
    WritesStream (r.complete none) s.a0 (s.prbs u) (s.prbs u).cur.toNat s.a1 ∧
      keepsOutside s (r.complete none) s.a0 (byteCount s.a1) ∧ (r.complete none).prbs u = (s.prbs u).advance s.a1 := by
  obtain ⟨-, -, hr⟩ := pgenRule_ok h
  have hbuf : r.buf = s.buf.writeBytes s.a0 (pack ((s.prbs u).bits (s.prbs u).cur.toNat s.a1)) := by simp [hr]
  exact ⟨writesStream_of_buf hbuf, keepsOutside_of_buf hbuf (pack_bits_length _ _ _), by simp [hr]⟩

/-- Settles O27: the rule's cases, each by its lemma; what a success leaves is the stored stream and the advanced unit. -/
theorem pgenWritesTheNextStreamBits : Obligations.PgenWritesTheNextStreamBits := by
  unfold Obligations.PgenWritesTheNextStreamBits
  refine fun u s hu => ⟨decode_unitWord (opc := 0x11) rfl hu (decide_eq_true hu),
    fun h => exec_failed (i := .pgen u) (pgenRule_of_unconfigured h),
    fun h hb => exec_failed (i := .pgen u) (pgenRule_of_outOfBounds h hb), fun h hb => ?_⟩
  have hrule := pgenRule_of_inBounds h hb
  obtain ⟨hwrites, hkeeps, hunit⟩ := pgenRule_writes hrule
  refine ⟨_, exec_of_ok (i := .pgen u) hrule, hwrites.bits, hwrites.pad, hkeeps, ?_, ?_, ?_, ?_, State.setPrbs_prbs_other _ hu _,
    complete_setRes0_ctl (by simp) _, by simp, by simp, by simp, by simp [keepsRest]⟩
  · rw [hunit, PrbsUnit.advance_cur_toNat h]
  · rw [hunit]
    exact ((prbsOk_advance h s.a1).2 h).2
  · rw [hunit, PrbsUnit.advance]
  · rw [hunit, PrbsUnit.advance]

/-- R105, R127: the bit offset is `{ARG3, ARG2}`. -/
theorem toNat_args_append (s : State) : (s.ctl.snap.arg3 ++ s.ctl.snap.arg2).toNat = s.bitOffset := toNat_append_eq _ _

/-- R127: what a `PGENO` that reaches its end leaves in BUF: the stream from the bit offset on. -/
theorem pgenoRule_writes {u : Nat} {s r : State} (h : pgenoRule u s = .ok r) :
    WritesStream (r.complete none) s.a0 (s.prbs u) s.bitOffset s.a1 := by
  obtain ⟨-, -, rfl⟩ := pgenoRule_ok h
  exact writesStream_of_buf (m := s.buf) rfl

/-- Settles O28: the rule's cases, each by its lemma; what a success leaves is the stored stream alone. -/
theorem pgenoReadsAtTheOffsetModuloTheCycle : Obligations.PgenoReadsAtTheOffsetModuloTheCycle := by
  unfold Obligations.PgenoReadsAtTheOffsetModuloTheCycle
  refine fun u s hu => ⟨decode_unitWord (opc := 0x12) rfl hu (decide_eq_true hu),
    fun h => exec_failed (i := .pgeno u) (pgenoRule_of_unconfigured h),
    fun h hb => exec_failed (i := .pgeno u) (pgenoRule_of_outOfBounds h hb), fun h hb => ?_⟩
  have hrule := pgenoRule_of_inBounds h hb
  have hwrites := pgenoRule_writes hrule
  rw [toNat_args_append]
  exact ⟨_, exec_of_ok (i := .pgeno u) hrule, hwrites.bits, hwrites.pad, keepsOutside_of_buf rfl (pack_bits_length _ _ _),
    complete_setRes0_ctl rfl _, keepsUnits_store s _ _ _⟩

/-- R20: storing two byte sequences one after the other stores them one behind the other. -/
theorem Memory.writeBytes_append (m : Memory) (a : Nat) (xs ys : List Byte) :
    m.writeBytes a (xs ++ ys) = (m.writeBytes a xs).writeBytes (a + xs.length) ys := by
  induction xs generalizing m a with
  | nil => rfl
  | cons x xs ih =>
    simp only [List.cons_append, Memory.writeBytes, ih, List.length_cons]
    rw [Nat.add_right_comm, Nat.add_assoc]

/-- R128: a stored sequence packet is its index and behind it its payload. -/
theorem writeBytes_packet (m : Memory) (a : Nat) (p : PrbsUnit) (k L : Nat) :
    m.writeBytes a (p.packet k L) = (m.writeBytes a (leBytes 4 k)).writeBytes (a + 4) (pack (p.bits (k * L) L)) := by
  rw [PrbsUnit.packet, Memory.writeBytes_append, leBytes_length]

/-- R128: what a `PSEQ` that reaches its end leaves in BUF: the index and behind it the stream from bit `k * L` on. -/
theorem pseqRule_writes {u : Nat} {s r : State} (h : pseqRule u s = .ok r) :
    (∀ k < 4, (r.complete none).byteAt (s.a0 + k) = s.ctl.snap.arg1.extractLsb' (8 * k) 8) ∧
      WritesStream (r.complete none) (s.a0 + 4) (s.prbs u) (s.a1 * s.a2) s.a2 := by
  obtain ⟨-, -, hL, -, rfl⟩ := pseqRule_ok h
  refine ⟨fun k hk => ?_, writesStream_of_buf (writeBytes_packet s.buf _ _ _ _)⟩
  have hindex : (s.buf.writeBytes s.a0 ((s.prbs u).packet s.a1 s.a2)).byte (s.a0 + k) = (leBytes 4 s.a1).getD k 0 := by
    rw [Memory.byte_writeBytes_inside _ _ _ _ (by rw [packet_length _ _ hL]; omega), PrbsUnit.packet,
      List.getD_append _ _ _ _ (by rwa [leBytes_length])]
  exact hindex.trans (leBytes_getD hk _)

/-- Settles O29: the rule's cases, each by its lemma; a stored packet is read byte by byte in its index and bit by bit in its payload. -/
theorem pseqWritesOneSequencePacket : Obligations.PseqWritesOneSequencePacket := by
  unfold Obligations.PseqWritesOneSequencePacket
  refine fun u s hu => ⟨decode_unitWord (opc := 0x13) rfl hu (decide_eq_true hu),
    fun h => exec_failed (i := .pseq u) (pseqRule_of_unconfigured h),
    fun h hL => exec_failed (i := .pseq u) (pseqRule_of_badLength h hL),
    fun h hz hL hb => exec_failed (i := .pseq u) (pseqRule_of_outOfBounds h hz hL hb), fun h hz hL hb => ?_⟩
  have hrule := pseqRule_of_inBounds h hz hL hb
  obtain ⟨hindex, hpayload⟩ := pseqRule_writes hrule
  exact ⟨_, exec_of_ok (i := .pseq u) hrule, hindex, hpayload.bits, keepsOutside_of_buf rfl (packet_length _ _ hL), complete_setRes0_ctl rfl _,
    keepsUnits_store s _ _ _⟩

/-- R18: bytes are equal when their bits in the stream are. -/
theorem byteAt_eq_of_bitAt {t w : State} {a b j k : Nat} (h : ∀ m < 8, bitAt t a (8 * j + m) = bitAt w b (8 * k + m)) :
    t.byteAt (a + j) = w.byteAt (b + k) := by
  refine BitVec.eq_of_getLsbD_eq fun i hi => ?_
  have hpos (n : Nat) : (8 * n + (7 - i)) / 8 = n ∧ 7 - (8 * n + (7 - i)) % 8 = i := by omega
  obtain ⟨hj, hjbit⟩ := hpos j
  obtain ⟨hk, hkbit⟩ := hpos k
  have hm := h (7 - i) (by omega)
  rwa [bitAt, bitAt, hj, hjbit, hk, hkbit] at hm

/-- R129: what a piece of `n` bits writes is the start of what a piece of `n + m` bits writes from the same position. -/
theorem WritesStream.bitAt_eq_first {t w : State} {a b x n m : Nat} {p : PrbsUnit} (ht : WritesStream t a p x n)
    (hw : WritesStream w b p x (n + m)) {i : Nat} (hi : i < n) : bitAt t a i = bitAt w b i := by
  rw [ht.bits i hi, hw.bits i (by omega)]

/-- R129: what a piece of `m` bits writes after the unit has moved `n` bits is the rest of what a piece of `n + m` bits writes. -/
theorem WritesStream.bitAt_eq_rest {v w : State} {a b n m : Nat} {p : PrbsUnit} (hne : p.len ≠ 0)
    (hv : WritesStream v a (p.advance n) (p.advance n).cur.toNat m) (hw : WritesStream w b p p.cur.toNat (n + m)) {i : Nat} (hi : i < m) :
    bitAt v a i = bitAt w b (n + i) := by
  have hpos : ((p.advance n).cur.toNat + i) % p.len.toNat = (p.cur.toNat + (n + i)) % p.len.toNat := by
    rw [PrbsUnit.advance_cur_toNat hne, Nat.mod_add_mod, Nat.add_assoc]
  rw [hw.bits (n + i) (by omega), ← hpos]
  exact hv.bits i hi

/-- Settles O30: both pieces read the stream where the one command reads it, and the pad bits of the last byte are 0 in both. -/
theorem pgenIsContinuous : Obligations.PgenIsContinuous := by
  unfold Obligations.PgenIsContinuous
  intro u s t p v q w hu hne hp hq hsum ht htcode hv hvcode hw hwcode
  obtain ⟨rt, hrt, rfl⟩ := ruleOf_ok_of_codeOf ht htcode
  obtain ⟨rv, hrv, rfl⟩ := ruleOf_ok_of_codeOf hv hvcode
  obtain ⟨rq, hrq, rfl⟩ := ruleOf_ok_of_codeOf hw hwcode
  obtain ⟨hfirst, -, htunit⟩ := pgenRule_writes hrt
  obtain ⟨hsecond, -, hvunit⟩ := pgenRule_writes hrv
  obtain ⟨hwhole, -, hwunit⟩ := pgenRule_writes hrq
  rw [hp, htunit] at hsecond hvunit
  rw [hq, ← hsum] at hwhole hwunit
  have hbits1 (i : Nat) (hi : i < s.a1) := hfirst.bitAt_eq_first hwhole hi
  have hbits2 (i : Nat) (hi : i < p.a1) := hsecond.bitAt_eq_rest hne hwhole hi
  refine ⟨hbits1, hbits2, ?_, fun hn => ⟨fun k hk => ?_, fun k hk => ?_⟩⟩
  · rw [hvunit, hwunit, PrbsUnit.advance_advance hne]
  · exact byteAt_eq_of_bitAt fun m hm => hbits1 _ (by omega)
  · rw [Nat.add_assoc]
    refine byteAt_eq_of_bitAt fun m hm => ?_
    rw [show 8 * (s.a1 / 8 + k) + m = s.a1 + (8 * k + m) by omega]
    by_cases hi : 8 * k + m < p.a1
    · exact hbits2 _ hi
    · rw [hsecond.pad _ (by omega) (by omega), hwhole.pad _ (by omega) (by omega)]

/-! ### A packet of unit 0 before the verifier (R128, R172) -/

/-- R172: a configured verifier judges and counts every packet inside BUF. -/
theorem vpktRule_of_inBounds {s : State} (he : s.ver.expect ≠ 0) (hl : s.prbs1.len ≠ 0) (hb : inBounds s.a0 s.a1 = true) :
    vpktRule s = .ok ((State.setRes0 { s with ver := s.ver.tally (verdict s s.a0 s.a1) } (verdict s s.a0 s.a1).number).setRes1
      (verdict s s.a0 s.a1).index) :=
  (if_neg (not_or.2 ⟨he, hl⟩)).trans (if_neg (ne_false_of_eq_true hb))

section
variable {s : State} {m : Memory} {a k L : Nat} {p : PrbsUnit}

/-- R128: a stored sequence packet reads back its index. -/
theorem read_index_of_packet (hbuf : s.buf = m.writeBytes a (p.packet k L)) (hk : k < 2 ^ 32) : s.buf.read a 4 = k := by
  have hindex := Memory.bytes_writeBytes_same m a (leBytes 4 k)
  rw [leBytes_length] at hindex
  rw [hbuf, writeBytes_packet, Memory.read, Memory.bytes_writeBytes_apart _ _ _ _ _ (.inl le_rfl), hindex, leValue_leBytes,
    Nat.mod_eq_of_lt (show k < 256 ^ 4 from hk)]

/-- R128: a stored sequence packet reads back its payload. -/
theorem bytes_payload_of_packet (hbuf : s.buf = m.writeBytes a (p.packet k L)) (hL : L % 8 = 0) :
    s.buf.bytes (a + 4) (L / 8) = pack (p.bits (k * L) L) := by
  have hlen : (pack (p.bits (k * L) L)).length = L / 8 := by
    rw [pack_bits_length, byteCount]
    omega
  rw [hbuf, writeBytes_packet, ← hlen, Memory.bytes_writeBytes_same]

/-- R172: the verifier finds a packet of a unit like its own, of its length and at an expected index, correct. -/
theorem verdict_packet (hbuf : s.buf = m.writeBytes a (p.packet k s.ver.plen.toNat)) (hL : s.ver.plen.toNat % 8 = 0)
    (hpoly : s.prbs1.poly = p.poly) (hlen : s.prbs1.len = p.len) (hk : k < s.ver.expect.toNat) :
    verdict s a (s.ver.plen.toNat / 8 + 4) = .correct k := by
  have hread := read_index_of_packet hbuf (hk.trans s.ver.expect.isLt)
  have hpayload := bytes_payload_of_packet hbuf hL
  rw [verdict, if_neg (not_not.2 rfl), hread, hpayload, PrbsUnit.bits_congr hpoly hlen, if_neg (not_not.2 rfl), if_neg (Nat.not_le.2 hk)]

/-- R172: `VPKT` counts such a packet as correct and reports verdict 0 and its index. -/
theorem vpktRule_packet (hbuf : s.buf = m.writeBytes s.a0 (p.packet k s.ver.plen.toNat)) (hL : s.ver.plen.toNat % 8 = 0)
    (hpoly : s.prbs1.poly = p.poly) (hlen : s.prbs1.len = p.len) (hk : k < s.ver.expect.toNat) (hn : s.a1 = s.ver.plen.toNat / 8 + 4)
    (hl : p.len ≠ 0) (hb : inBounds s.a0 s.a1 = true) :
    vpktRule s = .ok ((State.setRes0 { s with ver := s.ver.tally (.correct k) } 0).setRes1 k) := by
  have he : s.ver.expect ≠ 0 := fun h => Nat.not_lt_zero k (by rwa [h] at hk)
  have hverdict := verdict_packet hbuf hL hpoly hlen hk
  rw [vpktRule_of_inBounds he (hlen ▸ hl) hb, hn, hverdict]
  rfl

end

/-- R172: a correct packet counts once more at its index. -/
theorem count_tally_correct (v : VerRegs) (k : Nat) : (v.tally (.correct k)).count k = satInc (v.count k) := by
  rw [VerRegs.tally, VerRegs.count, cellGet_cellPut, if_pos rfl]
  rfl

/-- Settles O46: the packet that PSEQ stored is read back whole, so its verdict is correct at its index. -/
theorem verifierAcceptsThePacketsPseqMakes : Obligations.VerifierAcceptsThePacketsPseqMakes := by
  unfold Obligations.VerifierAcceptsThePacketsPseqMakes
  intro s t src n ht htcode hpoly hlen hplen hk hsrc hn
  obtain ⟨r, hr, rfl⟩ := ruleOf_ok_of_codeOf ht htcode
  obtain ⟨hl, -, hL, hb, rfl⟩ := pseqRule_ok hr
  have hplen' : s.ver.plen.toNat = s.a2 := congrArg BitVec.toNat hplen
  have hbuf : s.buf.writeBytes s.a0 (s.prbs0.packet s.a1 s.a2) = s.buf.writeBytes src.toNat (s.prbs0.packet s.a1 s.ver.plen.toNat) := by
    rw [hsrc, hplen']
  have hn' : n.toNat = s.ver.plen.toNat / 8 + 4 := by rw [hn, hplen', Nat.add_comm]
  have hb' : inBounds src.toNat n.toNat = true := by rw [hsrc, hn, hb]
  have hindex : BitVec.ofNat 32 s.a1 = s.ctl.snap.arg1 := by rw [State.a1, BitVec.ofNat_toNat, BitVec.setWidth_eq]
  exact ⟨_, exec_of_ok (i := .vpkt) (vpktRule_packet (m := s.buf) (k := s.a1) (p := s.prbs0) hbuf (hplen' ▸ hL) hpoly hlen hk hn' hl hb'),
    codeOf_complete _ none, rfl, hindex, count_tally_correct s.ver s.a1, rfl⟩

end Sys2Proof.Machine

/-! ## The Golay code: minimum distance, decoding and syndromes (41_golay.md R140-R150) -/

namespace Sys2Proof.Machine

/-! ### Weights (R22) -/

/-- Where one of two conditions holds but not both, counted with twice where both hold. -/
theorem countP_xor_add (l : List Nat) (p q : Nat → Bool) :
    l.countP (fun i => p i ^^ q i) + 2 * l.countP (fun i => p i && q i) = l.countP p + l.countP q := by
  induction l with
  | nil => rfl
  | cons i l ih =>
    simp only [List.countP_cons]
    cases p i <;> cases q i <;> simp <;> omega

/-- R22: the weight of a sum is at most the sum of the weights. -/
theorem popcount_xor_le {w : Nat} (x y : BitVec w) : popcount (x ^^^ y) ≤ popcount x + popcount y := by
  have hcount := countP_xor_add (List.range w) (fun i => x.getLsbD i) (fun i => y.getLsbD i)
  simp only [popcount, BitVec.getLsbD_xor]
  omega

/-- R22: the weight of a word is the weight of its two parts. -/
theorem popcount_append {m n : Nat} (x : BitVec m) (y : BitVec n) : popcount (x ++ y) = popcount x + popcount y := by
  have hrange : List.range (m + n) = List.range n ++ (List.range m).map (n + ·) := by rw [Nat.add_comm, List.range_add]
  rw [popcount, hrange, List.countP_append, List.countP_map, Nat.add_comm]
  congr 1
  · refine List.countP_congr fun i _ => ?_
    simp [BitVec.getLsbD_append]
  · refine List.countP_congr fun i hi => ?_
    simp [BitVec.getLsbD_append, List.mem_range.1 hi]

/-- R22: only the zero word has weight 0. -/
theorem eq_zero_of_popcount {w : Nat} {x : BitVec w} (h : popcount x = 0) : x = 0 := by
  refine BitVec.eq_of_getLsbD_eq fun i hi => ?_
  simpa using List.countP_eq_zero.1 h i (List.mem_range.2 hi)

/-! ### A word and the places of its 1 bits -/

/-- The places of the 1 bits of a word. -/
def onesOf {w : Nat} (x : BitVec w) : List Nat := (List.range w).filter x.getLsbD

/-- The word with 1 bits at the places listed. -/
def wordOf (w : Nat) (l : List Nat) : BitVec w := l.foldr (fun i x => BitVec.twoPow w i ^^^ x) 0

theorem onesOf_length {w : Nat} (x : BitVec w) : (onesOf x).length = popcount x := List.countP_eq_length_filter.symm

theorem onesOf_sublist {w : Nat} (x : BitVec w) : (onesOf x).Sublist (List.range w) := List.filter_sublist

theorem mem_onesOf {w i : Nat} {x : BitVec w} : i ∈ onesOf x ↔ i < w ∧ x.getLsbD i = true := by simp [onesOf]

theorem wordOf_getLsbD {w : Nat} {l : List Nat} (hl : l.Nodup) {i : Nat} (hi : i < w) : (wordOf w l).getLsbD i = decide (i ∈ l) := by
  induction l with
  | nil => simp [wordOf]
  | cons j l ih =>
    obtain ⟨hj, hl⟩ := List.nodup_cons.1 hl
    have hcons : wordOf w (j :: l) = BitVec.twoPow w j ^^^ wordOf w l := rfl
    rw [hcons, BitVec.getLsbD_xor, ih hl, BitVec.getLsbD_twoPow]
    by_cases hij : j = i
    · subst hij
      simp [hi, hj]
    · simp [hij, Ne.symm hij]

theorem wordOf_onesOf {w : Nat} (x : BitVec w) : wordOf w (onesOf x) = x := by
  refine BitVec.eq_of_getLsbD_eq fun i hi => ?_
  rw [wordOf_getLsbD ((onesOf_sublist x).nodup List.nodup_range) hi]
  simp [mem_onesOf, hi]

/-! ### The parity map (R140, R141) -/

/-- Adding up the rows that a condition selects gives, at each place, the parity of the selected rows' bits there. -/
theorem getLsbD_foldl_rows (l : List Nat) (sel : Nat → Bool) (row : Nat → BitVec 12) (acc : BitVec 12) (j : Nat) :
    (l.foldl (fun acc i => if sel i then acc ^^^ row i else acc) acc).getLsbD j =
      (acc.getLsbD j ^^ decide (l.countP (fun i => sel i && (row i).getLsbD j) % 2 = 1)) := by
  induction l generalizing acc with
  | nil => simp
  | cons i l ih =>
    rw [List.foldl_cons, ih, List.countP_cons]
    cases sel i with
    | false => simp
    | true =>
      cases hrow : (row i).getLsbD j with
      | false => simp [hrow]
      | true =>
        simp only [hrow, if_true, BitVec.getLsbD_xor, Bool.and_self]
        rcases Nat.mod_two_eq_zero_or_one (l.countP fun i => sel i && (row i).getLsbD j) with h | h <;> simp [h, Nat.add_mod]

/-- R141: each parity bit is the parity of the selected rows' bits in its column. -/
theorem golayPar_getLsbD (d : BitVec 12) (j : Nat) : (golayPar d).getLsbD j =
    decide ((List.range 12).countP (fun i => d.getLsbD (11 - i) && (Config.golayRows.getD i 0).getLsbD j) % 2 = 1) := by
  rw [golayPar, getLsbD_foldl_rows _ (fun i => d.getLsbD (11 - i))]
  simp

/-- R141: the code is linear: the parity of a sum is the sum of the parities. -/
theorem golayPar_xor (d e : BitVec 12) : golayPar (d ^^^ e) = golayPar d ^^^ golayPar e := by
  refine BitVec.eq_of_getLsbD_eq fun j _ => ?_
  simp only [BitVec.getLsbD_xor, golayPar_getLsbD, Bool.and_xor_distrib_right]
  have hcount := countP_xor_add (List.range 12) (fun i => d.getLsbD (11 - i) && (Config.golayRows.getD i 0).getLsbD j)
    (fun i => e.getLsbD (11 - i) && (Config.golayRows.getD i 0).getLsbD j)
  rw [Bool.eq_iff_iff]
  simp only [decide_eq_true_eq, Bool.xor_iff_ne, ne_eq, decide_eq_decide]
  omega

theorem golayPar_zero : golayPar 0#12 = 0#12 := by decide

/-- R140: `B * B = I`, row by row. -/
theorem golayPar_golayPar_twoPow : ∀ i < 12, golayPar (golayPar (BitVec.twoPow 12 i)) = BitVec.twoPow 12 i := by decide

/-- R140: `B * B = I`: a group is the parity of its parity. -/
theorem golayPar_golayPar (d : BitVec 12) : golayPar (golayPar d) = d := by
  have hword (l : List Nat) (hl : ∀ i ∈ l, i < 12) : golayPar (golayPar (wordOf 12 l)) = wordOf 12 l := by
    induction l with
    | nil => exact (congrArg golayPar golayPar_zero).trans golayPar_zero
    | cons i l ih =>
      have hcons : wordOf 12 (i :: l) = BitVec.twoPow 12 i ^^^ wordOf 12 l := rfl
      rw [hcons, golayPar_xor, golayPar_xor, golayPar_golayPar_twoPow i (hl i List.mem_cons_self),
        ih fun j hj => hl j (List.mem_cons_of_mem _ hj)]
  have hd := hword (onesOf d) fun i hi => (mem_onesOf.1 hi).1
  rwa [wordOf_onesOf] at hd

/-! ### Minimum distance (R140) -/

/-- R140: the codewords of the 298 groups with 1, 2 or 3 bits have weight at least 8, each evaluated. -/
theorem eight_le_of_light_wordOf : ∀ n ∈ [1, 2, 3], ∀ l ∈ (List.range 12).sublistsLen n, 8 ≤ n + popcount (golayPar (wordOf 12 l)) := by decide +kernel

/-- R140: a codeword whose group has 1, 2 or 3 bits has weight at least 8. -/
theorem eight_le_of_light {d : BitVec 12} (h0 : d ≠ 0) (h3 : popcount d ≤ 3) : 8 ≤ popcount d + popcount (golayPar d) := by
  have hpos : popcount d ≠ 0 := fun h => h0 (eq_zero_of_popcount h)
  have hmem : popcount d ∈ [1, 2, 3] := by
    simp only [List.mem_cons, List.not_mem_nil, or_false]
    omega
  have hlight := eight_le_of_light_wordOf _ hmem (onesOf d) (List.mem_sublistsLen.2 ⟨onesOf_sublist d, onesOf_length d⟩)
  rwa [wordOf_onesOf] at hlight

theorem popcount_golayEnc (d : BitVec 12) : popcount (golayEnc d) = popcount d + popcount (golayPar d) := popcount_append d _

/-- R140: a nonzero codeword has weight at least 8. Of its halves one is light or both have weight at least 4, and as each half is the
parity of the other, a light half is as good as a light group. -/
theorem eight_le_popcount_golayEnc {d : BitVec 12} (h : d ≠ 0) : 8 ≤ popcount (golayEnc d) := by
  rw [popcount_golayEnc]
  have hpar : golayPar d ≠ 0 := fun h0 => h (by rw [← golayPar_golayPar d, h0]; exact golayPar_zero)
  by_cases hlight : popcount d ≤ 3
  · exact eight_le_of_light h hlight
  by_cases hlightPar : popcount (golayPar d) ≤ 3
  · have hswapped := eight_le_of_light hpar hlightPar
    rwa [golayPar_golayPar, Nat.add_comm] at hswapped
  · omega

/-- R141: the sum of two codewords is the codeword of the sum. -/
theorem golayEnc_xor (d e : BitVec 12) : golayEnc (d ^^^ e) = golayEnc d ^^^ golayEnc e := by
  rw [golayEnc, golayPar_xor, ← BitVec.xor_append]
  rfl

theorem golayEnc_zero : golayEnc 0#12 = 0#24 := by decide

/-- Settles O31: the sum of two codewords is a nonzero codeword. -/
theorem golayMinimumDistanceIsEight : Obligations.GolayMinimumDistanceIsEight := by
  unfold Obligations.GolayMinimumDistanceIsEight
  intro d e hne
  rw [← golayEnc_xor]
  exact eight_le_popcount_golayEnc fun h => hne (BitVec.xor_eq_zero_iff.1 h)

/-! ### Bounded-distance decoding (R143) -/

/-- R22: the distance of two words is at most the sum of their distances from a third. -/
theorem popcount_xor_triangle {w : Nat} (x y r : BitVec w) : popcount (x ^^^ y) ≤ popcount (r ^^^ x) + popcount (r ^^^ y) := by
  have hsum : (r ^^^ x) ^^^ (r ^^^ y) = x ^^^ y := by rw [BitVec.xor_comm r x, BitVec.xor_assoc, xor_cancel_left]
  rw [← hsum]
  exact popcount_xor_le _ _

/-- R143: codewords less than 8 apart by way of a word are one. -/
theorem golayEnc_near_unique {r : BitVec 24} {d e : BitVec 12} (h : popcount (r ^^^ golayEnc d) + popcount (r ^^^ golayEnc e) < 8) : d = e := by
  by_contra hne
  have hfar := golayMinimumDistanceIsEight d e hne
  have hnear := popcount_xor_triangle (golayEnc d) (golayEnc e) r
  omega

/-- R143: the groups the decoder searches are all groups. -/
theorem mem_allGroups (d : BitVec 12) : d ∈ (List.range 4096).map (BitVec.ofNat 12) :=
  List.mem_map.2 ⟨d.toNat, List.mem_range.2 d.isLt, by rw [BitVec.ofNat_toNat, BitVec.setWidth_eq]⟩

/-- R143: the search finds no group exactly when every codeword is farther than 3. -/
theorem golayNear_eq_none_iff (r : BitVec 24) : golayNear r = none ↔ ∀ d, 3 < popcount (r ^^^ golayEnc d) := by
  rw [golayNear, List.find?_eq_none]
  simp only [decide_eq_true_eq, not_le]
  exact ⟨fun h d => h d (mem_allGroups d), fun h d _ => h d⟩

/-- R143: a group the search finds is at distance at most 3. -/
theorem popcount_le_of_golayNear {r : BitVec 24} {d : BitVec 12} (h : golayNear r = some d) : popcount (r ^^^ golayEnc d) ≤ 3 := by
  simpa using List.find?_some h

/-- R143: a word at distance at most 3 from a codeword decodes to its group, with that distance. -/
theorem golayDec_near {r : BitVec 24} {d : BitVec 12} (h : popcount (r ^^^ golayEnc d) ≤ 3) :
    golayDec r = { data := d, nerr := popcount (r ^^^ golayEnc d), uncorr := false } := by
  unfold golayDec
  cases hfind : golayNear r with
  | none => exact absurd h (Nat.not_le.2 ((golayNear_eq_none_iff r).1 hfind d))
  | some e =>
    have he := popcount_le_of_golayNear hfind
    have hsame : e = d := golayEnc_near_unique (r := r) (by omega)
    rw [hsame]

/-- R144: a word farther than 3 from every codeword gives its own data half, flagged. -/
theorem golayDec_far {r : BitVec 24} (h : ∀ d, 3 < popcount (r ^^^ golayEnc d)) :
    golayDec r = { data := r.extractLsb' 12 12, nerr := 4, uncorr := true } := by
  unfold golayDec
  rw [(golayNear_eq_none_iff r).2 h]

/-- R150 (b): a codeword with at most 3 bits flipped decodes to its group, with their number. -/
theorem golayDec_golayEnc_xor {d : BitVec 12} {e : BitVec 24} (h : popcount e ≤ 3) :
    golayDec (golayEnc d ^^^ e) = { data := d, nerr := popcount e, uncorr := false } := by
  have hflips : golayEnc d ^^^ e ^^^ golayEnc d = e := xor_xor_cancel_comm _ _
  rw [golayDec_near (d := d) (by rwa [hflips]), hflips]

theorem popcount_zero {w : Nat} : popcount 0#w = 0 := List.countP_eq_zero.2 fun i _ => by simp

/-- R150 (a): a codeword decodes to its group, with no errors. -/
theorem golayDec_golayEnc (d : BitVec 12) : golayDec (golayEnc d) = { data := d, nerr := 0, uncorr := false } := by
  have hflips := golayDec_golayEnc_xor (d := d) (e := 0#24) (by rw [popcount_zero]; omega)
  rwa [BitVec.xor_zero, popcount_zero] at hflips

/-- R150 (c): a word at distance 4 from a codeword is at distance at least 4 from every codeword, so it is flagged. -/
theorem golayDec_uncorr_of_four {r : BitVec 24} {d : BitVec 12} (h : popcount (r ^^^ golayEnc d) = 4) : (golayDec r).uncorr = true := by
  have hfar (f : BitVec 12) : 3 < popcount (r ^^^ golayEnc f) := by
    by_contra hnear
    have hsame : d = f := golayEnc_near_unique (r := r) (by omega)
    subst hsame
    omega
  rw [golayDec_far hfar]

/-- Settles O32: each law is a case of the decoder's; the miscorrected word is 5 flips from codeword 0 and 3 from that of 0x508. -/
theorem golayCodecLaws : Obligations.GolayCodecLaws := by
  unfold Obligations.GolayCodecLaws
  refine ⟨golayDec_golayEnc, fun d e h => golayDec_golayEnc_xor h, fun d e h => golayDec_uncorr_of_four (d := d) ?_, 0, 0x00001F, by decide,
    by decide, golayDec_near (d := 0x508) (by decide), by decide⟩
  rwa [xor_xor_cancel_comm]

/-! ### Syndromes (R149) -/

/-- R149: the syndrome of a word is the parity of its data half and its parity half, added up. -/
theorem golaySyn_append (x y : BitVec 12) : golaySyn (x ++ y) = golayPar x ^^^ y := by
  rw [golaySyn, BitVec.extractLsb'_append_eq_left, BitVec.extractLsb'_append_eq_right]

theorem golaySyn_golayEnc (d : BitVec 12) : golaySyn (golayEnc d) = 0 := by
  rw [golayEnc, golaySyn_append]
  exact BitVec.xor_self

/-- R149: the syndrome of a sum is the sum of the syndromes. -/
theorem golaySyn_xor (r e : BitVec 24) : golaySyn (r ^^^ e) = golaySyn r ^^^ golaySyn e := by
  simp only [golaySyn, BitVec.extractLsb'_xor, golayPar_xor]
  ac_rfl

/-- R141: a word is its data half and its parity half. -/
theorem halves_append (r : BitVec 24) : r.extractLsb' 12 12 ++ r.extractLsb' 0 12 = r := by
  exact (BitVec.extractLsb'_append_extractLsb'_eq_extractLsb' rfl).trans BitVec.extractLsb'_eq_self

/-- R149: the syndrome is 0 exactly for codewords. -/
theorem golaySyn_eq_zero_iff (r : BitVec 24) : golaySyn r = 0 ↔ ∃ d, r = golayEnc d := by
  refine ⟨fun h => ⟨r.extractLsb' 12 12, ?_⟩, fun ⟨d, hd⟩ => hd ▸ golaySyn_golayEnc d⟩
  rw [golayEnc, BitVec.xor_eq_zero_iff.1 h, halves_append]

/-- R149: two words have one syndrome exactly when they are a codeword apart. -/
theorem golaySyn_eq_iff (r e : BitVec 24) : golaySyn e = golaySyn r ↔ ∃ d, e = r ^^^ golayEnc d := by
  have hzero := golaySyn_eq_zero_iff (r ^^^ e)
  rw [golaySyn_xor] at hzero
  rw [eq_comm, ← BitVec.xor_eq_zero_iff]
  exact hzero.trans (exists_congr fun d => xor_eq_iff_right_eq _ _ _)

/-- R149: the pattern of weight at most 3 with a given syndrome is unique. -/
theorem eq_of_golaySyn_eq {e f : BitVec 24} (he : popcount e ≤ 3) (hf : popcount f ≤ 3) (h : golaySyn e = golaySyn f) : e = f := by
  obtain ⟨d, rfl⟩ := (golaySyn_eq_iff f e).1 h
  have hf' : popcount (f ^^^ golayEnc 0#12) ≤ 3 := by rwa [golayEnc_zero, BitVec.xor_zero]
  have hd : d = 0#12 := golayEnc_near_unique (r := f) (by omega)
  rw [hd, golayEnc_zero, BitVec.xor_zero]

/-- R149: the patterns the table is built from are those with the syndrome. -/
theorem mem_patterns_iff {s : BitVec 12} {e : BitVec 24} :
    e ∈ ((List.range 4096).map (BitVec.ofNat 12)).map (fun x => x ++ (golayPar x ^^^ s)) ↔ golaySyn e = s := by
  rw [List.mem_map]
  constructor
  · rintro ⟨x, -, rfl⟩
    rw [golaySyn_append, xor_cancel_left]
  · rintro rfl
    refine ⟨e.extractLsb' 12 12, mem_allGroups _, ?_⟩
    rw [golaySyn, xor_cancel_left, halves_append]

/-- R149: no pattern is found exactly when every word with the syndrome is heavier than 3. -/
theorem golayErr_eq_none_iff (s : BitVec 12) : golayErr s = none ↔ ∀ e, golaySyn e = s → 3 < popcount e := by
  rw [golayErr, List.find?_eq_none]
  simp only [decide_eq_true_eq, not_le]
  exact forall_congr' fun e => imp_congr_left mem_patterns_iff

/-- R149: a pattern found has the syndrome, and weight at most 3. -/
theorem golayErr_some {s : BitVec 12} {e : BitVec 24} (h : golayErr s = some e) : golaySyn e = s ∧ popcount e ≤ 3 := by
  unfold golayErr at h
  exact ⟨mem_patterns_iff.1 (List.mem_of_find?_eq_some h), by simpa using List.find?_some h⟩

/-- R149: decoding by syndrome is decoding to the nearest codeword: the words with a received word's syndrome are its differences from codewords. -/
theorem golayDecSyn_eq_golayDec (r : BitVec 24) : golayDecSyn r = golayDec r := by
  unfold golayDecSyn
  cases hfind : golayErr (golaySyn r) with
  | none =>
    refine (golayDec_far fun d => ?_).symm
    exact (golayErr_eq_none_iff _).1 hfind _ ((golaySyn_eq_iff r _).2 ⟨d, rfl⟩)
  | some e =>
    obtain ⟨hsyn, hweight⟩ := golayErr_some hfind
    obtain ⟨d, rfl⟩ := (golaySyn_eq_iff r e).1 hsyn
    simp only [golayDec_near hweight, xor_cancel_left]
    rw [golayEnc, BitVec.extractLsb'_append_eq_left]

/-- Settles O33: the syndrome is linear and 0 on codewords alone, so one syndrome means one coset of the code. -/
theorem syndromeDecodingIsNearestDecoding : Obligations.SyndromeDecodingIsNearestDecoding := by
  unfold Obligations.SyndromeDecodingIsNearestDecoding
  exact ⟨golaySyn_eq_zero_iff, fun s e f he hf hse hsf => eq_of_golaySyn_eq he hf (hse.trans hsf.symm), golayDecSyn_eq_golayDec⟩

end Sys2Proof.Machine

/-! ## GENC and GDEC (41_golay.md R145, R146) -/

namespace Sys2Proof.Machine

open Sys2Proof.Claim

/-- Settles O34: the stored codeword is the group and behind it its parity. -/
theorem gencWritesTheSystematicCodeword : Obligations.GencWritesTheSystematicCodeword := by
  unfold Obligations.GencWritesTheSystematicCodeword
  refine ⟨decodeOfEncodeIsTheInstruction .genc rfl, fun s => ⟨golayEnc s.ctl.snap.gDin, exec_of_ok (i := .genc) rfl,
    BitVec.extractLsb'_append_eq_left, fun j hj => ?_⟩⟩
  have hlow : 11 - j < 12 := by omega
  rw [golayEnc, BitVec.getLsbD_append, if_pos hlow, golayPar_getLsbD]

/-- R146: what `GDEC` leaves, given what the decoder answers for the captured word. -/
theorem exec_gdec {s : State} {g : GolayResult} (h : golayDec s.ctl.snap.gCin = g) :
    exec .gdec s = .next { s with ctl := doneCtl s.ctl, golay := { s.golay with dout := g.data, dstat := golayStat g } } := by
  have hrule : gdecRule s = .ok { s with golay := { s.golay with dout := g.data, dstat := golayStat g } } := by rw [gdecRule, h]
  exact exec_of_ok (i := .gdec) hrule

/-- Settles O35: the decoder's two cases. -/
theorem gdecDecodesWithinDistanceThree : Obligations.GdecDecodesWithinDistanceThree := by
  unfold Obligations.GdecDecodesWithinDistanceThree
  exact ⟨decodeOfEncodeIsTheInstruction .gdec rfl, fun s => ⟨fun d h => exec_gdec (golayDec_near h), fun h => exec_gdec (golayDec_far h)⟩⟩

end Sys2Proof.Machine

/-! ## Framed messages: the streams that `GENCF` and `GDECF` read and write (41_golay.md R142, R147, R148) -/

namespace Sys2Proof.Machine

open Sys2Proof.Claim

/-! ### Words of a stream (R18) -/

/-- R18: bit `k` of a value read from a stream is the element `k` places before the value's last one. -/
theorem getLsbD_valOf_subStream {b : List Bool} {i w k : Nat} (h : i + w ≤ b.length) (hk : k < w) :
    (BitVec.ofNat w (valOf (subStream b i w))).getLsbD k = b.getD (i + (w - 1 - k)) false := by
  rw [BitVec.getLsbD_ofNat, valOf_testBit, subStream_length b i w h, if_pos hk, subStream_getD _ _ _ _ (by omega)]
  simp [hk]

/-- R18: pieces of one length joined to a stream stand one behind the other. -/
theorem getD_flatMap_range {f : Nat → List Bool} {w : Nat} (hw : ∀ j, (f j).length = w) {n j i : Nat} (hj : j < n) (hi : i < w) :
    ((List.range n).flatMap f).getD (w * j + i) false = (f j).getD i false := by
  induction n with
  | zero => omega
  | succ n ih =>
    have hlen : ((List.range n).flatMap f).length = w * n := by simp [List.length_flatMap, hw, Nat.mul_comm]
    rw [List.range_succ, List.flatMap_append, List.flatMap_singleton]
    obtain hlt | rfl := Nat.lt_succ_iff_lt_or_eq.1 hj
    · have hpos : w * j + i < w * n := by
        have hnext := Nat.mul_le_mul_left w hlt
        rw [Nat.mul_succ] at hnext
        omega
      rw [List.getD_append _ _ _ _ (hlen ▸ hpos), ih hlt]
    · rw [List.getD_append_right _ _ _ _ (by omega), hlen, Nat.add_sub_cancel_left]

/-- R142: word `j`, of `w` bits, of the stream that the `n` bytes at `a` hold. -/
def State.streamWord (s : State) (a n w j : Nat) : BitVec w := BitVec.ofNat w (valOf (subStream (unpack (s.buf.bytes a n)) (w * j) w))

theorem streamWord_getLsbD {s : State} {a n w j k : Nat} (h : w * j + w ≤ 8 * n) (hk : k < w) :
    (s.streamWord a n w j).getLsbD k = bitAt s a (w * j + (w - 1 - k)) := by
  rw [State.streamWord, getLsbD_valOf_subStream (by simpa using h) hk, unpack_bit, Memory.bytes_getD, if_pos (by omega)]
  rfl

/-- R18: bit `i` of a byte is the bit `7 - i` of those the byte adds to the stream. -/
theorem byteAt_getLsbD {s : State} {a k i : Nat} (hi : i < 8) : (s.byteAt (a + k)).getLsbD i = bitAt s a (8 * k + (7 - i)) := by
  rw [bitAt, show (8 * k + (7 - i)) / 8 = k by omega, show 7 - (8 * k + (7 - i)) % 8 = i by omega]

/-- R142: of three payload bytes, the first group is the first byte and the high half of the second. -/
theorem streamWord_even_group {s : State} {a n m : Nat} (h : 3 * m + 3 ≤ n) :
    s.streamWord a n 12 (2 * m) = s.byteAt (a + 3 * m) ++ (s.byteAt (a + 3 * m + 1)).extractLsb' 4 4 := by
  refine BitVec.eq_of_getLsbD_eq fun i hi => ?_
  rw [streamWord_getLsbD (by omega) hi, BitVec.getLsbD_append]
  by_cases hlow : i < 4
  · rw [if_pos hlow, BitVec.getLsbD_extractLsb', decide_eq_true hlow, Bool.true_and, Nat.add_assoc, byteAt_getLsbD (by omega)]
    congr 1
    omega
  · rw [if_neg hlow, byteAt_getLsbD (by omega)]
    congr 1
    omega

/-- R142: of three payload bytes, the second group is the low half of the second byte and the third byte. -/
theorem streamWord_odd_group {s : State} {a n m : Nat} (h : 3 * m + 3 ≤ n) :
    s.streamWord a n 12 (2 * m + 1) = (s.byteAt (a + 3 * m + 1)).extractLsb' 0 4 ++ s.byteAt (a + 3 * m + 2) := by
  refine BitVec.eq_of_getLsbD_eq fun i hi => ?_
  rw [streamWord_getLsbD (by omega) hi, BitVec.getLsbD_append]
  by_cases hlow : i < 8
  · rw [if_pos hlow, Nat.add_assoc, byteAt_getLsbD hlow]
    congr 1
    omega
  · rw [if_neg hlow, BitVec.getLsbD_extractLsb', decide_eq_true (by omega), Bool.true_and, Nat.add_assoc, byteAt_getLsbD (by omega)]
    congr 1
    omega

/-- R142: three bytes hold one block, big-endian. -/
theorem streamWord_block {s : State} {a n j : Nat} (h : 3 * j + 3 ≤ n) :
    s.streamWord a n 24 j = s.byteAt (a + 3 * j) ++ s.byteAt (a + 3 * j + 1) ++ s.byteAt (a + 3 * j + 2) := by
  refine BitVec.eq_of_getLsbD_eq fun i hi => ?_
  rw [streamWord_getLsbD (by omega) hi, BitVec.getLsbD_append]
  by_cases hlow : i < 8
  · rw [if_pos hlow, Nat.add_assoc, byteAt_getLsbD hlow]
    congr 1
    omega
  rw [if_neg hlow, BitVec.getLsbD_append]
  by_cases hmid : i - 8 < 8
  · rw [if_pos hmid, Nat.add_assoc, byteAt_getLsbD hmid]
    congr 1
    omega
  · rw [if_neg hmid, byteAt_getLsbD (by omega)]
    congr 1
    omega

/-- R142: where a stream holds a block, its three bytes hold it big-endian. -/
theorem byteAt_of_block {t : State} {a j k : Nat} {c : BitVec 24} (h : ∀ i < 24, bitAt t a (24 * j + i) = c.getLsbD (23 - i)) (hk : k < 3) :
    t.byteAt (a + (3 * j + k)) = c.extractLsb' (16 - 8 * k) 8 := by
  refine BitVec.eq_of_getLsbD_eq fun i hi => ?_
  rw [byteAt_getLsbD hi, show 8 * (3 * j + k) + (7 - i) = 24 * j + (8 * k + (7 - i)) by omega, h _ (by omega), BitVec.getLsbD_extractLsb',
    decide_eq_true hi, Bool.true_and]
  congr 1
  omega

/-! ### A frame in BUF: a packed stream between two markers (R147, R148) -/

/-- At `a` BUF holds a 4-byte marker, a packed stream and a second 4-byte marker. -/
structure HoldsFrame (t : State) (a : Nat) (pre : List Byte) (b : List Bool) (post : List Byte) : Prop where
  pre : ∀ k < 4, t.byteAt (a + k) = pre.getD k 0
  bits : ∀ i < 8 * byteCount b.length, bitAt t (a + 4) i = b.getD i false
  post : ∀ k < 4, t.byteAt (a + 4 + byteCount b.length + k) = post.getD k 0

theorem holdsFrame_of_buf {t : State} {m : Memory} {a : Nat} {pre post : List Byte} {b : List Bool} (hpre : pre.length = 4)
    (hpost : post.length = 4) (hbuf : t.buf = m.writeBytes a (pre ++ pack b ++ post)) : HoldsFrame t a pre b post := by
  have hsplit : t.buf = ((m.writeBytes a pre).writeBytes (a + 4) (pack b)).writeBytes (a + 4 + byteCount b.length) post := by
    rw [hbuf, Memory.writeBytes_append, Memory.writeBytes_append, List.length_append, hpre, pack_length, Nat.add_assoc]
  refine ⟨fun k hk => ?_, fun i hi => ?_, fun k hk => ?_⟩
  · rw [State.byteAt, hsplit, Memory.byte_writeBytes_outside _ _ _ _ (by omega), Memory.byte_writeBytes_outside _ _ _ _ (by omega),
      Memory.byte_writeBytes_inside _ _ _ _ (hpre ▸ hk)]
  · rw [bitAt, State.byteAt, hsplit, Memory.byte_writeBytes_outside _ _ _ _ (by omega),
      Memory.byte_writeBytes_inside _ _ _ _ (by rw [pack_length]; omega), pack_bit b i hi]
  · rw [State.byteAt, hsplit, Memory.byte_writeBytes_inside _ _ _ _ (hpost ▸ hk)]

/-! ### What the rules answer, condition by condition (R147, R148) -/

section
variable {s : State}

theorem gencfRule_of_partialBlock (h : s.a1 % 3 ≠ 0) : gencfRule s = .error .framing := if_pos h

theorem gencfRule_of_outOfBounds (h : s.a1 % 3 = 0) (hb : inBounds s.a0 s.a1 = false ∨ inBounds s.a2 (8 + 2 * s.a1) = false) :
    gencfRule s = .error .bounds := (if_neg (not_not.2 h)).trans (if_pos hb)

theorem gencfRule_of_inBounds (h : s.a1 % 3 = 0) (hsrc : inBounds s.a0 s.a1 = true) (hdst : inBounds s.a2 (8 + 2 * s.a1) = true) :
    gencfRule s = .ok (((s.store s.a2 (golayFrame s.ctl.snap.gPre s.ctl.snap.gPost (s.buf.bytes s.a0 s.a1))).setFrame
      (2 * s.a1 / 3) 0 0).setRes0 (8 + 2 * s.a1)) :=
  (if_neg (not_not.2 h)).trans (if_neg (not_or.2 ⟨ne_false_of_eq_true hsrc, ne_false_of_eq_true hdst⟩))

theorem gdecfRule_of_partialBlock (h : s.a1 < 8 ∨ (s.a1 - 8) % 3 ≠ 0) : gdecfRule s = .error .framing := if_pos h

theorem gdecfRule_of_outOfBounds (h8 : 8 ≤ s.a1) (h : (s.a1 - 8) % 3 = 0)
    (hb : inBounds s.a0 s.a1 = false ∨ inBounds s.a2 (golayOutLen ((s.a1 - 8) / 3)) = false) : gdecfRule s = .error .bounds :=
  (if_neg (not_or.2 ⟨Nat.not_lt.2 h8, not_not.2 h⟩)).trans (if_pos hb)

theorem gdecfRule_of_inBounds (h8 : 8 ≤ s.a1) (h : (s.a1 - 8) % 3 = 0) (hsrc : inBounds s.a0 s.a1 = true)
    (hdst : inBounds s.a2 (golayOutLen ((s.a1 - 8) / 3)) = true) :
    gdecfRule s = .ok ((((s.store s.a2 (s.buf.bytes s.a0 4 ++ golayDecPayload (gdecfBlocks s) ++ s.buf.bytes (s.a0 + s.a1 - 4) 4)).setFrame
      ((s.a1 - 8) / 3) (golayUncorr (gdecfBlocks s)) (golayCorrected (gdecfBlocks s))).setRes0
      (golayOutLen ((s.a1 - 8) / 3))).setRes1 (golayUncorr (gdecfBlocks s))) :=
  (if_neg (not_or.2 ⟨Nat.not_lt.2 h8, not_not.2 h⟩)).trans
    (if_neg (not_or.2 ⟨ne_false_of_eq_true hsrc, ne_false_of_eq_true hdst⟩))

end

/-! ### GENCF (R147) -/

/-- R147: in the code stream of a payload, the codeword of group `j` stands at bit `24 j`. -/
theorem golayEncStream_getD (s : State) (a n : Nat) {N j i : Nat} (hj : j < N) (hi : i < 24) :
    (golayEncStream (unpack (s.buf.bytes a n)) N).getD (24 * j + i) false = (golayEnc (s.streamWord a n 12 j)).getLsbD (23 - i) := by
  rw [golayEncStream, getD_flatMap_range (fun _ => bitsOf_length _) hj hi, bitsOf_getD, if_pos hi]
  rfl

/-- R147: `t` holds what a `GENCF` from `s` writes: the captured markers and between them the codeword of each payload group. -/
structure WritesCodewords (s t : State) : Prop where
  pre : ∀ k < 4, t.byteAt (s.a2 + k) = s.ctl.snap.gPre.extractLsb' (8 * k) 8
  post : ∀ k < 4, t.byteAt (s.a2 + 4 + 2 * s.a1 + k) = s.ctl.snap.gPost.extractLsb' (8 * k) 8
  block : ∀ j < 2 * s.a1 / 3, ∀ i < 24, bitAt t (s.a2 + 4) (24 * j + i) = (golayEnc (s.streamWord s.a0 s.a1 12 j)).getLsbD (23 - i)
  outside : keepsOutside s t s.a2 (8 + 2 * s.a1)

theorem gencfRule_writes {s r : State} (h : gencfRule s = .ok r) : WritesCodewords s (r.complete none) := by
  obtain ⟨hfull, -, -, hr⟩ := gencfRule_ok h
  have hbuf : (r.complete none).buf = s.buf.writeBytes s.a2 (golayFrame s.ctl.snap.gPre s.ctl.snap.gPost (s.buf.bytes s.a0 s.a1)) := by
    rw [hr]
    rfl
  have hcode : byteCount (golayEncStream (unpack (s.buf.bytes s.a0 s.a1)) (2 * s.a1 / 3)).length = 2 * s.a1 := by
    rw [golayEncStream_length, byteCount]
    omega
  have houtside := keepsOutside_of_buf hbuf (golayFrame_length _ _ (by rwa [Memory.bytes_length]))
  rw [Memory.bytes_length] at houtside
  rw [golayFrame, Memory.bytes_length] at hbuf
  have hframe := holdsFrame_of_buf (leBytes_length 4 _) (leBytes_length 4 _) hbuf
  refine ⟨fun k hk => ?_, fun k hk => ?_, fun j hj i hi => ?_, houtside⟩
  · rw [hframe.pre k hk, leBytes_getD hk]
  · rw [← leBytes_getD hk, ← hframe.post k hk, hcode]
  · rw [hframe.bits _ (by omega), golayEncStream_getD _ _ _ hj hi]

/-- Settles O36: the rule's cases, each by its lemma; a success is read byte by byte from the codewords it leaves. -/
theorem gencfFramesTheCodewords : Obligations.GencfFramesTheCodewords := by
  unfold Obligations.GencfFramesTheCodewords
  refine ⟨decodeOfEncodeIsTheInstruction .gencf rfl, fun s => ⟨fun h => exec_failed (i := .gencf) (gencfRule_of_partialBlock h),
    fun h hb => exec_failed (i := .gencf) (gencfRule_of_outOfBounds h hb), fun h hsrc hdst => ?_⟩⟩
  have hrule := gencfRule_of_inBounds h hsrc hdst
  have hwrites := gencfRule_writes hrule
  refine ⟨_, exec_of_ok (i := .gencf) hrule, fun k hk => ⟨hwrites.pre k hk, hwrites.post k hk⟩, fun m hm k hk => ⟨?_, ?_⟩, hwrites.outside,
    complete_setRes0_ctl rfl _, rfl, by simp [keepsAllButGolay, keepsRest]⟩
  · rw [← streamWord_even_group (n := s.a1) (by omega), ← byteAt_of_block (hwrites.block (2 * m) (by omega)) hk]
    congr 1
    omega
  · rw [← streamWord_odd_group (n := s.a1) (by omega), ← byteAt_of_block (hwrites.block (2 * m + 1) (by omega)) hk]
    congr 1
    omega

/-! ### GDECF (R148) -/

/-- R148: what the decoder answers for block `j` of the message a `GDECF` reads. -/
def gdecfBlock (s : State) (j : Nat) : GolayResult := golayDec (s.streamWord (s.a0 + 4) (s.a1 - 8) 24 j)

theorem gdecfBlocks_eq_map (s : State) : gdecfBlocks s = (List.range ((s.a1 - 8) / 3)).map (gdecfBlock s) := rfl

theorem gdecfBlock_eq_bytes {s : State} {j : Nat} (hj : j < (s.a1 - 8) / 3) : gdecfBlock s j =
    golayDec (s.byteAt (s.a0 + 4 + 3 * j) ++ s.byteAt (s.a0 + 4 + 3 * j + 1) ++ s.byteAt (s.a0 + 4 + 3 * j + 2)) :=
  congrArg golayDec (streamWord_block (by omega))

/-- R148 `fu`: the uncorrectable blocks, counted block by block. -/
theorem golayUncorr_map_range (f : Nat → GolayResult) (n : Nat) :
    golayUncorr ((List.range n).map f) = ∑ j ∈ Finset.range n, if (f j).uncorr then 1 else 0 := by
  unfold golayUncorr
  induction n with
  | zero => rfl
  | succ n ih =>
    rw [List.range_succ, List.map_append, List.countP_append, ih, Finset.sum_range_succ]
    simp

/-- R148 `fc`: the corrected bits, added up block by block. -/
theorem golayCorrected_map_range (f : Nat → GolayResult) (n : Nat) :
    golayCorrected ((List.range n).map f) = ∑ j ∈ Finset.range n, if (f j).uncorr then 0 else (f j).nerr := by
  unfold golayCorrected
  induction n with
  | zero => rfl
  | succ n ih =>
    rw [List.range_succ, List.map_append, List.filter_append, List.map_append, List.sum_append, ih, Finset.sum_range_succ]
    cases hu : (f n).uncorr <;> simp [hu]

/-- R148: the counts of a message, block by block. -/
theorem gdecf_counts_eq_sum {s : State} {f : Nat → GolayResult} (h : ∀ j < (s.a1 - 8) / 3, gdecfBlock s j = f j) :
    golayUncorr (gdecfBlocks s) = (∑ j ∈ Finset.range ((s.a1 - 8) / 3), if (f j).uncorr then 1 else 0) ∧
      golayCorrected (gdecfBlocks s) = ∑ j ∈ Finset.range ((s.a1 - 8) / 3), if (f j).uncorr then 0 else (f j).nerr := by
  have hblocks : gdecfBlocks s = (List.range ((s.a1 - 8) / 3)).map f := List.map_congr_left fun j hj => h j (List.mem_range.1 hj)
  rw [hblocks]
  exact ⟨golayUncorr_map_range f _, golayCorrected_map_range f _⟩

/-- R148: in the decoded stream, the group of block `j` stands at bit `12 j`. -/
theorem decodedStream_getD (s : State) {j i : Nat} (hj : j < (s.a1 - 8) / 3) (hi : i < 12) :
    ((gdecfBlocks s).flatMap fun g => bitsOf g.data).getD (12 * j + i) false = (gdecfBlock s j).data.getLsbD (11 - i) := by
  rw [gdecfBlocks_eq_map, List.flatMap_map, getD_flatMap_range (fun _ => bitsOf_length _) hj hi, bitsOf_getD, if_pos hi]

theorem decodedStream_length (s : State) : ((gdecfBlocks s).flatMap fun g => bitsOf g.data).length = 12 * ((s.a1 - 8) / 3) := by
  simp [gdecfBlocks, List.length_flatMap, Nat.mul_comm]

/-- R148: `t` holds what a `GDECF` from `s` writes: the message's markers and between them the decoded groups, padded with zeros. -/
structure WritesDecoded (s t : State) : Prop where
  pre : ∀ k < 4, t.byteAt (s.a2 + k) = s.byteAt (s.a0 + k)
  post : ∀ k < 4, t.byteAt (s.a2 + 4 + byteCount (12 * ((s.a1 - 8) / 3)) + k) = s.byteAt (s.a0 + s.a1 - 4 + k)
  group : ∀ j < (s.a1 - 8) / 3, ∀ i < 12, bitAt t (s.a2 + 4) (12 * j + i) = (gdecfBlock s j).data.getLsbD (11 - i)
  pad : ∀ i, 12 * ((s.a1 - 8) / 3) ≤ i → i < 8 * byteCount (12 * ((s.a1 - 8) / 3)) → bitAt t (s.a2 + 4) i = false
  outside : keepsOutside s t s.a2 (golayOutLen ((s.a1 - 8) / 3))

theorem gdecfRule_writes {s r : State} (h : gdecfRule s = .ok r) : WritesDecoded s (r.complete none) := by
  obtain ⟨-, -, -, -, hr⟩ := gdecfRule_ok h
  have hbuf : (r.complete none).buf =
      s.buf.writeBytes s.a2 (s.buf.bytes s.a0 4 ++ golayDecPayload (gdecfBlocks s) ++ s.buf.bytes (s.a0 + s.a1 - 4) 4) := by
    rw [hr]
    rfl
  have houtside := keepsOutside_of_buf hbuf (gdecf_output_length s)
  have hframe := holdsFrame_of_buf (Memory.bytes_length _ _ 4) (Memory.bytes_length _ _ 4) hbuf
  have hlen := decodedStream_length s
  refine ⟨fun k hk => ?_, fun k hk => ?_, fun j hj i hi => ?_, fun i hn hi => ?_, houtside⟩
  · rw [hframe.pre k hk, Memory.bytes_getD, if_pos hk, State.byteAt]
  · rw [← hlen, hframe.post k hk, Memory.bytes_getD, if_pos hk, State.byteAt]
  · rw [hframe.bits _ (by rw [hlen, byteCount]; omega), decodedStream_getD s hj hi]
  · rw [hframe.bits i (by rwa [hlen]), List.getD_eq_default _ _ (hlen ▸ hn)]

/-- Settles O37: the rule's cases, each by its lemma; a success leaves the decoded blocks, and counts them one by one. -/
theorem gdecfDecodesThePayloadRegion : Obligations.GdecfDecodesThePayloadRegion := by
  unfold Obligations.GdecfDecodesThePayloadRegion
  refine ⟨decodeOfEncodeIsTheInstruction .gdecf rfl, fun s => ⟨fun h => exec_failed (i := .gdecf) (gdecfRule_of_partialBlock h),
    fun h8 h hb => exec_failed (i := .gdecf) (gdecfRule_of_outOfBounds h8 h hb), fun h8 h hsrc hdst => ?_⟩⟩
  have hrule := gdecfRule_of_inBounds h8 h hsrc hdst
  have hwrites := gdecfRule_writes hrule
  obtain ⟨huncorr, hcorrected⟩ := gdecf_counts_eq_sum fun j hj => gdecfBlock_eq_bytes (s := s) hj
  refine ⟨_, exec_of_ok (i := .gdecf) hrule, fun k hk => ⟨hwrites.pre k hk, hwrites.post k hk⟩, fun j hj i hi => ?_, hwrites.pad,
    hwrites.outside, ?_, rfl, by simp [keepsAllButGolay, keepsRest]⟩
  · rw [hwrites.group j hj i hi, gdecfBlock_eq_bytes hj]
  · rw [← huncorr, ← hcorrected]
    rfl

/-! ### GENCF and then GDECF (R150) -/

section
variable {s t u v : State}

/-- R150 (a): each block of what a `GENCF` wrote is the codeword of a payload group, and decodes to it. -/
theorem gdecfBlock_of_codewords (hcoded : WritesCodewords s t) (hbuf : u.buf = t.buf) (hsrc : u.a0 = s.a2) (hlen : u.a1 = 8 + 2 * s.a1)
    {j : Nat} (hj : j < (u.a1 - 8) / 3) : gdecfBlock u j = { data := s.streamWord s.a0 s.a1 12 j, nerr := 0, uncorr := false } := by
  have hword : u.streamWord (u.a0 + 4) (u.a1 - 8) 24 j = golayEnc (s.streamWord s.a0 s.a1 12 j) := by
    refine BitVec.eq_of_getLsbD_eq fun i hi => ?_
    have hblock := hcoded.block j (by omega) (23 - i) (by omega)
    rw [show 23 - (23 - i) = i by omega] at hblock
    rw [streamWord_getLsbD (by omega) hi, ← hblock, hsrc, bitAt, bitAt, State.byteAt, State.byteAt, hbuf]
  rw [gdecfBlock, hword, golayDec_golayEnc]

/-- R150 (a): the decoded stream is the payload's. -/
theorem bitAt_decoded_of_codewords (hcoded : WritesCodewords s t) (hdecoded : WritesDecoded u v) (hbuf : u.buf = t.buf) (hsrc : u.a0 = s.a2)
    (hlen : u.a1 = 8 + 2 * s.a1) (hfull : s.a1 % 3 = 0) {i : Nat} (hi : i < 8 * s.a1) : bitAt v (u.a2 + 4) i = bitAt s s.a0 i := by
  have hgroup := hdecoded.group (i / 12) (by omega) (i % 12) (by omega)
  rw [Nat.div_add_mod, gdecfBlock_of_codewords hcoded hbuf hsrc hlen (by omega), streamWord_getLsbD (by omega) (by omega)] at hgroup
  rw [hgroup]
  congr 1
  omega

/-- R148: what a `GDECF` of a `GENCF`'s output writes between the markers is as long as the payload. -/
theorem decoded_length_of_frame (hlen : u.a1 = 8 + 2 * s.a1) (hfull : s.a1 % 3 = 0) : byteCount (12 * ((u.a1 - 8) / 3)) = s.a1 := by
  rw [byteCount]
  omega

/-- R150 (a): no block is counted as uncorrectable, no bit as corrected, and the output is the payload and its markers. -/
theorem gdecf_counters_of_codewords {r : State} (hcoded : WritesCodewords s t) (hr : gdecfRule u = .ok r) (hbuf : u.buf = t.buf)
    (hsrc : u.a0 = s.a2) (hlen : u.a1 = 8 + 2 * s.a1) (hfull : s.a1 % 3 = 0) (hin : inBounds s.a0 s.a1 = true) :
    (r.complete none).golay.func = 0 ∧ (r.complete none).golay.fcor = 0 ∧ (r.complete none).ctl.res0.toNat = 8 + s.a1 := by
  obtain ⟨huncorr, hcorrected⟩ := gdecf_counts_eq_sum fun j hj => gdecfBlock_of_codewords hcoded hbuf hsrc hlen hj
  obtain ⟨-, -, -, -, rfl⟩ := gdecfRule_ok hr
  have hfits := length_le_of_inBounds hin
  refine ⟨by simp [huncorr], by simp [hcorrected], ?_⟩
  have hres0 : (BitVec.ofNat 32 (golayOutLen ((u.a1 - 8) / 3))).toNat = 8 + s.a1 := by
    rw [golayOutLen, decoded_length_of_frame hlen hfull, BitVec.toNat_ofNat]
    omega
  exact hres0

/-- R147, R148: the markers of what a `GENCF` wrote pass through a `GDECF`. -/
theorem markers_of_codewords (hcoded : WritesCodewords s t) (hdecoded : WritesDecoded u v) (hbuf : u.buf = t.buf) (hsrc : u.a0 = s.a2)
    (hlen : u.a1 = 8 + 2 * s.a1) (hfull : s.a1 % 3 = 0) {k : Nat} (hk : k < 4) :
    v.byteAt (u.a2 + k) = s.ctl.snap.gPre.extractLsb' (8 * k) 8 ∧ v.byteAt (u.a2 + 4 + s.a1 + k) = s.ctl.snap.gPost.extractLsb' (8 * k) 8 := by
  have hbyte (a : Nat) : u.byteAt a = t.byteAt a := by rw [State.byteAt, State.byteAt, hbuf]
  have hpost := hdecoded.post k hk
  rw [decoded_length_of_frame hlen hfull, hbyte, show u.a0 + u.a1 - 4 + k = s.a2 + 4 + 2 * s.a1 + k by omega] at hpost
  rw [hdecoded.pre k hk, hbyte, hsrc, hpost]
  exact ⟨hcoded.pre k hk, hcoded.post k hk⟩

end

/-- Settles O38: each block that GDECF reads is the codeword GENCF left there, so what it writes is the payload and the markers. -/
theorem framedPayloadSurvivesEncodeThenDecode : Obligations.FramedPayloadSurvivesEncodeThenDecode := by
  unfold Obligations.FramedPayloadSurvivesEncodeThenDecode
  intro s t v src m dst ht htcode hsrc hm hv hvcode
  obtain ⟨rt, hrt, rfl⟩ := ruleOf_ok_of_codeOf ht htcode
  obtain ⟨rv, hrv, rfl⟩ := ruleOf_ok_of_codeOf hv hvcode
  obtain ⟨hfull, hin, -, -⟩ := gencfRule_ok hrt
  have hcoded := gencfRule_writes hrt
  have hdecoded := gdecfRule_writes hrv
  refine ⟨fun k hk => byteAt_eq_of_bitAt fun i hi => ?_, fun k hk => markers_of_codewords hcoded hdecoded rfl hsrc hm hfull hk,
    gdecf_counters_of_codewords hcoded hrv rfl hsrc hm hfull hin⟩
  exact bitAt_decoded_of_codewords hcoded hdecoded rfl hsrc hm hfull (by omega)

end Sys2Proof.Machine

/-! ## The verifier (42_verifier.md R170-R174) -/

namespace Sys2Proof.Machine

open Sys2Proof.Claim

/-! ### What each rule answers, condition by condition (R170-R173) -/

section
variable {s : State}

theorem vcfgRule_of_invalid (h : s.a0 = 0 ∨ 65536 < s.a0 ∨ s.a1 = 0 ∨ s.a1 % 8 ≠ 0) : vcfgRule s = .error .invalidConfig := if_pos h

theorem vcfgRule_of_valid (he : s.a0 ≠ 0) (hmax : s.a0 ≤ 65536) (hl : s.a1 ≠ 0) (hmod : s.a1 % 8 = 0) :
    vcfgRule s = .ok { s with ver := s.ver.configured s.ctl.snap.arg0 s.ctl.snap.arg1 } :=
  if_neg (not_or.2 ⟨he, not_or.2 ⟨Nat.not_lt.2 hmax, not_or.2 ⟨hl, not_not.2 hmod⟩⟩⟩)

theorem vseenRule_of_unconfigured (h : s.ver.expect = 0) : vseenRule s = .error .notConfigured := if_pos h

theorem vseenRule_of_configured (h : s.ver.expect ≠ 0) :
    vseenRule s = .ok { s with ver := { s.ver with recv := satInc s.ver.recv } } := if_neg h

theorem vpktRule_of_unconfigured (h : s.ver.expect = 0 ∨ s.prbs1.len = 0) : vpktRule s = .error .notConfigured := if_pos h

theorem vpktRule_of_outOfBounds (he : s.ver.expect ≠ 0) (hl : s.prbs1.len ≠ 0) (hb : inBounds s.a0 s.a1 = false) :
    vpktRule s = .error .bounds := (if_neg (not_or.2 ⟨he, hl⟩)).trans (if_pos hb)

theorem vfinRule_of_unconfigured (h : s.ver.expect = 0) : vfinRule s = .error .notConfigured := if_pos h

theorem vfinRule_of_configured (h : s.ver.expect ≠ 0) :
    vfinRule s = .ok ((State.setRes0 { s with ver := s.ver.finalize } s.ver.finalize.miss.toNat).setRes1 s.ver.finalize.dup.toNat) :=
  if_neg h

end

/-! ### VCFG and VSEEN (R170, R171) -/

/-- Settles O39: the rule's two cases; a configured verifier lists no count, so every count reads 0. -/
theorem vcfgConfiguresAndClears : Obligations.VcfgConfiguresAndClears := by
  unfold Obligations.VcfgConfiguresAndClears
  refine ⟨decodeOfEncodeIsTheInstruction .vcfg rfl, fun s => ⟨fun h => exec_failed (i := .vcfg) (vcfgRule_of_invalid h),
    fun he hmax hl hmod => ?_⟩⟩
  exact ⟨_, exec_of_ok (i := .vcfg) (vcfgRule_of_valid he hmax hl hmod), rfl, rfl, rfl, rfl, rfl, rfl, fun _ => rfl, rfl, rfl, rfl, rfl, rfl, rfl,
    complete_ctl rfl, rfl, rfl, rfl, rfl, ⟨rfl, rfl, rfl, rfl, rfl⟩, fun _ => rfl⟩

/-- Settles O40: the rule's two cases; the counter's increment saturates. -/
theorem vseenCountsOnePacket : Obligations.VseenCountsOnePacket := by
  unfold Obligations.VseenCountsOnePacket
  exact ⟨decodeOfEncodeIsTheInstruction .vseen rfl, fun s => ⟨fun h => exec_failed (i := .vseen) (vseenRule_of_unconfigured h),
    fun h => ⟨satInc s.ver.recv, satInc_toNat _, exec_of_ok (i := .vseen) (vseenRule_of_configured h)⟩⟩⟩

/-! ### The verdict on a packet (R172 steps (1)-(5)) -/

/-- R18: whole bytes are a stream packed exactly when each of their bits is the stream's. -/
theorem eq_pack_iff {bs : List Byte} {b : List Bool} (hlen : b.length = 8 * bs.length) :
    bs = pack b ↔ ∀ i < b.length, (unpack bs).getD i false = b.getD i false := by
  refine ⟨fun h i hi => ?_, fun h => ?_⟩
  · rw [unpack_bit, h, pack_bit b i (by unfold byteCount; omega)]
  · have hunpack : unpack bs = b := List.ext_getElem (by simp [hlen]) fun i h1 h2 => by
      simpa only [List.getD, List.getElem?_eq_getElem h1, List.getElem?_eq_getElem h2, Option.getD_some] using h i h2
    rw [← hunpack, pack_unpack]

/-- R172 step (4): the payload comparison, bit by bit. -/
theorem payload_eq_iff {s : State} {a x L : Nat} {p : PrbsUnit} (hL : L % 8 = 0) :
    s.buf.bytes a (L / 8) = pack (p.bits x L) ↔ ∀ i < L, bitAt s a i = prbsBit p.poly ((x + i) % p.len.toNat) := by
  rw [eq_pack_iff (by rw [PrbsUnit.bits_length, Memory.bytes_length]; omega), PrbsUnit.bits_length]
  refine forall₂_congr fun i hi => ?_
  rw [unpack_bit, Memory.bytes_getD, if_pos (by omega), PrbsUnit.bits_getD p x hi]
  rfl

section
variable {s : State} {src n : Nat}

theorem verdict_of_length_ne (h : n ≠ s.ver.plen.toNat / 8 + 4) : verdict s src n = .wrongLength := if_pos h

/-- R172: the verdict on a packet of the configured length is decided by its payload and then by its index. -/
theorem verdict_of_length_eq (hL : s.ver.plen.toNat % 8 = 0) (h : n = s.ver.plen.toNat / 8 + 4) :
    verdict s src n =
      if ∀ i < s.ver.plen.toNat, bitAt s (src + 4) i =
          prbsBit s.prbs1.poly ((s.buf.read src 4 * s.ver.plen.toNat + i) % s.prbs1.len.toNat) then
        if s.ver.expect.toNat ≤ s.buf.read src 4 then .outOfRange (s.buf.read src 4) else .correct (s.buf.read src 4)
      else .mismatch (s.buf.read src 4) := by
  rw [verdict, if_neg (not_not.2 h)]
  simp only [ne_eq, payload_eq_iff hL, ite_not]

end

/-- R172: what a configured verifier's `VPKT` leaves, given its verdict on the packet. -/
theorem exec_vpkt_of_verdict {s : State} {d : Verdict} (he : s.ver.expect ≠ 0) (hl : s.prbs1.len ≠ 0) (hb : inBounds s.a0 s.a1 = true)
    (hd : verdict s s.a0 s.a1 = d) :
    exec .vpkt s = .next { s with
      ctl := { doneCtl s.ctl with res0 := BitVec.ofNat 32 d.number, res1 := BitVec.ofNat 32 d.index }, ver := s.ver.tally d } := by
  subst hd
  exact exec_of_ok (i := .vpkt) (vpktRule_of_inBounds he hl hb)

/-- R172 step (6): the counts after a correct packet. -/
theorem count_tally_correct_eq_ite (v : VerRegs) (k i : Nat) :
    (v.tally (.correct k)).count i = if i = k then satInc (v.count k) else v.count i := by
  rw [VerRegs.tally, VerRegs.count, cellGet_cellPut]
  split <;> rfl

/-- Settles O41: the rule's errors, and then each verdict by the test that decides it. -/
theorem vpktJudgesAndCountsThePacket : Obligations.VpktJudgesAndCountsThePacket := by
  unfold Obligations.VpktJudgesAndCountsThePacket
  refine ⟨decodeOfEncodeIsTheInstruction .vpkt rfl, fun s hL => ?_⟩
  intro L k length payload outcome
  refine ⟨fun h => exec_failed (i := .vpkt) (vpktRule_of_unconfigured h),
    fun he hl hb => exec_failed (i := .vpkt) (vpktRule_of_outOfBounds he hl hb), fun he hl hb => ?_⟩
  have houtcome {d : Verdict} (hd : verdict s s.a0 s.a1 = d) : outcome (s.ver.tally d) d.number d.index :=
    exec_vpkt_of_verdict he hl hb hd
  have hverdict (hlen : length) := verdict_of_length_eq (src := s.a0) hL hlen
  refine ⟨fun hlen => houtcome (verdict_of_length_ne hlen), fun hlen hpay => ?_, fun hlen hpay hk => ?_, fun hlen hpay hk => ?_⟩
  · exact houtcome ((hverdict hlen).trans (if_neg hpay))
  · exact houtcome ((hverdict hlen).trans ((if_pos hpay).trans (if_pos hk)))
  · exact ⟨_, houtcome ((hverdict hlen).trans ((if_pos hpay).trans (if_neg (Nat.not_le.2 hk)))), count_tally_correct_eq_ite s.ver k, rfl⟩

/-! ### VFIN (R173) -/

/-- R173: the received indices, counted as a set. -/
theorem received_eq_card (v : VerRegs) (e : Nat) : v.received e = ((Finset.range e).filter fun i => 1 ≤ (v.count i).toNat).card := by
  rw [VerRegs.received, List.countP_eq_length_filter]
  rfl

/-- R173: the duplicates, summed over the set of indices. -/
theorem duplicates_eq_sum (v : VerRegs) (e : Nat) : v.duplicates e = ∑ i ∈ Finset.range e, ((v.count i).toNat - 1) := rfl

theorem received_le (v : VerRegs) (e : Nat) : v.received e ≤ e := by
  simpa [VerRegs.received] using List.countP_le_length (l := List.range e)

/-- R173: the statistics of a verifier configured for at most 65536 packets fit their registers. -/
theorem finalized_toNat {v : VerRegs} (h : v.expect.toNat ≤ 65536) :
    v.finalized.rcvd.toNat = v.received v.expect.toNat ∧ v.finalized.miss.toNat = v.expect.toNat - v.received v.expect.toNat ∧
      v.finalized.ferq.toNat = (v.expect.toNat - v.received v.expect.toNat) * 65536 / v.expect.toNat ∧
      v.finalized.dup.toNat = min (v.duplicates v.expect.toNat) (2 ^ 32 - 1) := by
  have hrecv := received_le v v.expect.toNat
  have hferq : (v.expect.toNat - v.received v.expect.toNat) * 65536 / v.expect.toNat ≤ 65536 :=
    Nat.div_le_of_le_mul (Nat.mul_le_mul_right _ (Nat.sub_le _ _))
  have hdup : satu32 (v.duplicates v.expect.toNat) < 2 ^ 32 := by
    unfold satu32
    omega
  simp only [VerRegs.finalized, BitVec.toNat_ofNat]
  rw [Nat.mod_eq_of_lt (by omega), Nat.mod_eq_of_lt (by omega), Nat.mod_eq_of_lt (by omega), Nat.mod_eq_of_lt hdup]
  exact ⟨rfl, rfl, rfl, rfl⟩

theorem finalize_of_final {v : VerRegs} (h : v.vfinal = true) : v.finalize = v := if_pos h

theorem finalize_of_open {v : VerRegs} (h : v.vfinal = false) : v.finalize = v.finalized := if_neg (ne_true_of_eq_false h)

/-- R173: what a configured verifier's `VFIN` leaves: the finalized statistics, and `V_MISS` and `V_DUP` as its results. -/
theorem exec_vfin_of_finalize {s : State} {v : VerRegs} (he : s.ver.expect ≠ 0) (hv : s.ver.finalize = v) :
    exec .vfin s = .next { s with ctl := { doneCtl s.ctl with res0 := v.miss, res1 := v.dup }, ver := v } := by
  subst hv
  rw [exec_of_ok (i := .vfin) (vfinRule_of_configured he), State.setRes0, State.setRes1, BitVec.ofNat_toNat, BitVec.setWidth_eq,
    BitVec.ofNat_toNat, BitVec.setWidth_eq]
  rfl

/-- R240: a configured verifier expects some packet. -/
theorem expect_ne_zero {v : VerRegs} (h : v.expect.toNat ≠ 0) : v.expect ≠ 0 := fun h0 => h (congrArg BitVec.toNat h0)

/-- Settles O42: the rule's error, a finalized verifier, and one whose statistics are computed now. -/
theorem vfinComputesTheStatisticsOnce : Obligations.VfinComputesTheStatisticsOnce := by
  unfold Obligations.VfinComputesTheStatisticsOnce
  refine ⟨decodeOfEncodeIsTheInstruction .vfin rfl, fun s hmax => ?_⟩
  intro E k
  refine ⟨fun h => exec_failed (i := .vfin) (vfinRule_of_unconfigured (BitVec.eq_of_toNat_eq h)),
    fun h hfinal => exec_vfin_of_finalize (expect_ne_zero h) (finalize_of_final hfinal), fun h hopen => ?_⟩
  obtain ⟨hrcvd, hmiss, hferq, hdup⟩ := finalized_toNat hmax
  rw [received_eq_card] at hrcvd hmiss hferq
  rw [duplicates_eq_sum] at hdup
  exact ⟨_, _, _, _, hrcvd, hmiss, hferq, hdup, exec_vfin_of_finalize (expect_ne_zero h) (finalize_of_open hopen)⟩

/-! ### Deliveries: the verdicts alone decide what is counted (R174) -/

/-- R63: values at two keys may be written in either order: each key stands before, at or behind the head, and behind it the rest decides. -/
theorem cellPut_comm {α : Type} (m : List (Nat × α)) {j k : Nat} (h : j ≠ k) (x y : α) :
    cellPut (cellPut m j x) k y = cellPut (cellPut m k y) j x := by
  induction m with
  | nil => grind [cellPut]
  | cons c rest ih => grind [cellPut]

/-- R172: two correct packets at different indices, each counted at its own. -/
theorem tally_correct_tally_correct (v : VerRegs) {j k : Nat} (h : j ≠ k) :
    (v.tally (.correct j)).tally (.correct k) =
      { v with vcnt := cellPut (cellPut v.vcnt j (satInc (v.count j))) k (satInc (v.count k)), cor := satInc (satInc v.cor) } := by
  have hk : (v.tally (.correct j)).count k = v.count k := (count_tally_correct_eq_ite v j k).trans (if_neg h.symm)
  simp only [VerRegs.tally] at hk ⊢
  rw [hk]

/-- R174 (b): verdicts may be counted in either order. -/
theorem tally_comm (v : VerRegs) (d e : Verdict) : (v.tally d).tally e = (v.tally e).tally d := by
  cases d with
  | correct j =>
    cases e with
    | correct k =>
      obtain rfl | h := eq_or_ne j k
      · rfl
      · rw [tally_correct_tally_correct v h, tally_correct_tally_correct v h.symm, cellPut_comm _ h]
    | wrongLength | mismatch _ | outOfRange _ => rfl
  | wrongLength | mismatch _ | outOfRange _ => cases e <;> rfl

/-- What counting a verdict leaves alone: the configuration, `V_RECV`, `V_IDX` and the statistics (R172, R174 (a)). -/
def VerRegs.uncounted (v : VerRegs) : VerRegs := { v with wlen := 0, unc := 0, cor := 0, vcnt := [] }

theorem tally_uncounted (v : VerRegs) (d : Verdict) : (v.tally d).uncounted = v.uncounted := by cases d <;> rfl

theorem tally_expect (v : VerRegs) (d : Verdict) : (v.tally d).expect = v.expect := (congrArg VerRegs.expect (tally_uncounted v d) :)

theorem foldl_tally_uncounted (v : VerRegs) (ds : List Verdict) : (ds.foldl VerRegs.tally v).uncounted = v.uncounted := by
  induction ds generalizing v with
  | nil => rfl
  | cons d ds ih => rw [List.foldl_cons, ih, tally_uncounted]

/-- R172: the verdict on a delivered packet, none where `VPKT` ends with an error. -/
def packetVerdict (s : State) (p : Word × Word) : Option Verdict :=
  if (s.ver.expect = 0 ∨ s.prbs1.len = 0) ∨ inBounds p.1.toNat p.2.toNat = false then none else some (verdict s p.1.toNat p.2.toNat)

/-- R174 (b): the verdict depends on the packet and the configuration only. -/
theorem packetVerdict_congr {s t : State} (hver : t.ver.uncounted = s.ver.uncounted) (hprbs : t.prbs1 = s.prbs1) (hbuf : t.buf = s.buf) :
    packetVerdict t = packetVerdict s := by
  have hexpect : t.ver.expect = s.ver.expect := (congrArg VerRegs.expect hver :)
  have hplen : t.ver.plen = s.ver.plen := (congrArg VerRegs.plen hver :)
  funext p
  simp only [packetVerdict, verdict, hexpect, hplen, hprbs, hbuf]

/-- R172: a delivery counts the packet's verdict, if it has one, and leaves BUF and unit 1 alone. -/
theorem exec_vpkt_withPacket (s : State) (p : Word × Word) :
    ∃ t, exec .vpkt (withPacket s p) = .next t ∧ t.ver = (packetVerdict s p).toList.foldl VerRegs.tally s.ver ∧
      t.prbs1 = s.prbs1 ∧ t.buf = s.buf := by
  by_cases hc : s.ver.expect = 0 ∨ s.prbs1.len = 0
  · exact ⟨_, exec_of_error (i := .vpkt) (vpktRule_of_unconfigured hc), by rw [packetVerdict, if_pos (.inl hc)]; rfl, rfl, rfl⟩
  obtain ⟨he, hl⟩ := not_or.1 hc
  cases hb : inBounds p.1.toNat p.2.toNat with
  | false =>
    exact ⟨_, exec_of_error (i := .vpkt) (vpktRule_of_outOfBounds he hl hb), by rw [packetVerdict, if_pos (.inr hb)]; rfl, rfl, rfl⟩
  | true =>
    exact ⟨_, exec_of_ok (i := .vpkt) (vpktRule_of_inBounds he hl hb),
      by rw [packetVerdict, if_neg (not_or.2 ⟨hc, ne_false_of_eq_true hb⟩)]; rfl, rfl, rfl⟩

/-- R174: after deliveries the verifier has counted the packets' verdicts, each judged as in the first state. -/
theorem deliver_ver (s : State) (ps : List (Word × Word)) :
    (deliver s ps).ver = (ps.flatMap fun p => (packetVerdict s p).toList).foldl VerRegs.tally s.ver := by
  induction ps generalizing s with
  | nil => rfl
  | cons p ps ih =>
    obtain ⟨t, ht, hver, hprbs, hbuf⟩ := exec_vpkt_withPacket s p
    have hsame : packetVerdict t = packetVerdict s := packetVerdict_congr (hver ▸ foldl_tally_uncounted _ _) hprbs hbuf
    rw [deliver, ht, List.flatMap_cons, List.foldl_append, ← hver, ← hsame]
    exact ih t

/-- Settles O43: the verdicts of the same packets in another order are counted to the same verifier. -/
theorem deliveryOrderDoesNotMatter : Obligations.DeliveryOrderDoesNotMatter := by
  unfold Obligations.DeliveryOrderDoesNotMatter
  intro s ps qs _ hperm
  rw [deliver_ver, deliver_ver]
  exact (hperm.flatMap_right _).foldl_eq' (fun d _ e _ v => tally_comm v d e) s.ver

/-- R174 (a): deliveries leave everything but the counts alone. -/
theorem deliver_uncounted (s : State) (ps : List (Word × Word)) : (deliver s ps).ver.uncounted = s.ver.uncounted := by
  rw [deliver_ver, foldl_tally_uncounted]

theorem finalize_vfinal (v : VerRegs) : v.finalize.vfinal = true := by
  cases h : v.vfinal with
  | true => rw [finalize_of_final h, h]
  | false => rw [finalize_of_open h]; rfl

theorem finalize_expect (v : VerRegs) : v.finalize.expect = v.expect := by
  unfold VerRegs.finalize
  split <;> rfl

/-- Settles O44: the second `VFIN` finds a finalized verifier, whose statistics no delivery has changed. -/
theorem finalizedStatisticsNeverChange : Obligations.FinalizedStatisticsNeverChange := by
  unfold Obligations.FinalizedStatisticsNeverChange
  intro s t ps ht hcode v
  obtain ⟨r, hr, -⟩ := ruleOf_ok_of_codeOf ht hcode
  obtain ⟨he, -⟩ := vfinRule_ok hr
  cases (exec_vfin_of_finalize he rfl).symm.trans ht
  have hkept : v.ver.uncounted = s.ver.finalize.uncounted := deliver_uncounted _ ps
  have hexpect : v.ver.expect = s.ver.expect := (congrArg VerRegs.expect hkept :).trans (finalize_expect _)
  have hfinal : v.ver.vfinal = true := (congrArg VerRegs.vfinal hkept :).trans (finalize_vfinal _)
  exact ⟨_, exec_vfin_of_finalize (hexpect ▸ he) (finalize_of_final hfinal), resultWord_code _ none, (congrArg VerRegs.miss hkept :),
    (congrArg VerRegs.dup hkept :), (congrArg VerRegs.rcvd hkept :), (congrArg VerRegs.miss hkept :), (congrArg VerRegs.ferq hkept :),
    (congrArg VerRegs.dup hkept :), hfinal⟩

/-! ### One packet delivered twice (R174 (c)) -/

/-- A sum of naturals goes up by one when one of its terms does. -/
theorem sum_range_eq_add_one {f g : Nat → Nat} {e k : Nat} (hk : k < e) (hat : g k = f k + 1) (hother : ∀ i, i ≠ k → g i = f i) :
    ∑ i ∈ Finset.range e, g i = (∑ i ∈ Finset.range e, f i) + 1 := by
  have hmem : k ∈ Finset.range e := Finset.mem_range.2 hk
  have hrest : ∑ i ∈ (Finset.range e).erase k, g i = ∑ i ∈ (Finset.range e).erase k, f i :=
    Finset.sum_congr rfl fun i hi => hother i (Finset.ne_of_mem_erase hi)
  rw [← Finset.add_sum_erase _ _ hmem, ← Finset.add_sum_erase _ f hmem, hrest, hat]
  omega

section
variable {v : VerRegs} {e k : Nat}

theorem count_tally_correct_of_ne {i : Nat} (h : i ≠ k) : (v.tally (.correct k)).count i = v.count i :=
  (count_tally_correct_eq_ite v k i).trans (if_neg h)

/-- D34: while a count cannot saturate, a correct packet adds one to it. -/
theorem count_tally_correct_toNat (h : (v.count k).toNat + 1 < 2 ^ 32) : ((v.tally (.correct k)).count k).toNat = (v.count k).toNat + 1 := by
  rw [count_tally_correct, satInc_toNat]
  omega

/-- R172: a correct packet is one reception more, while its count cannot saturate. -/
theorem receptions_tally_correct (hk : k < e) (h : (v.count k).toNat + 1 < 2 ^ 32) :
    ∑ i ∈ Finset.range e, ((v.tally (.correct k)).count i).toNat = (∑ i ∈ Finset.range e, (v.count i).toNat) + 1 :=
  sum_range_eq_add_one hk (count_tally_correct_toNat h) fun _ hi => by rw [count_tally_correct_of_ne hi]

/-- R174 (c): a correct packet of an index already received is one duplicate more, while its count cannot saturate. -/
theorem duplicates_tally_correct (hk : k < e) (hreceived : v.count k ≠ 0) (h : (v.count k).toNat + 1 < 2 ^ 32) :
    (v.tally (.correct k)).duplicates e = v.duplicates e + 1 := by
  have hpos : (v.count k).toNat ≠ 0 := fun h0 => hreceived (BitVec.eq_of_toNat_eq h0)
  refine sum_range_eq_add_one hk ?_ fun i hi => by rw [count_tally_correct_of_ne hi]
  rw [count_tally_correct_toNat h]
  omega

/-- R174 (c): a correct packet of an index already received is no index more. -/
theorem received_tally_correct (hreceived : v.count k ≠ 0) : (v.tally (.correct k)).received e = v.received e := by
  have hone {w : Word} (hw : w ≠ 0) : 1 ≤ w.toNat := Nat.one_le_iff_ne_zero.2 fun h0 => hw (BitVec.eq_of_toNat_eq h0)
  refine List.countP_congr fun i _ => ?_
  obtain rfl | hi := eq_or_ne i k
  · simp only [decide_eq_true_eq, count_tally_correct, hone hreceived, hone (satInc_ne_zero _)]
  · rw [count_tally_correct_of_ne hi]

theorem duplicates_le_receptions : v.duplicates e ≤ ∑ i ∈ Finset.range e, (v.count i).toNat := by
  rw [duplicates_eq_sum]
  exact Finset.sum_le_sum fun i _ => Nat.sub_le _ _

/-- R172: no count exceeds the receptions. -/
theorem count_le_receptions (hk : k < e) : (v.count k).toNat ≤ ∑ i ∈ Finset.range e, (v.count i).toNat :=
  Finset.single_le_sum (f := fun i => (v.count i).toNat) (fun _ _ => Nat.zero_le _) (Finset.mem_range.2 hk)

/-- R174 (c): what finalizing gives after a correct packet of an index already received, while nothing saturates. -/
theorem finalized_tally_correct (hmax : v.expect.toNat ≤ 65536) (hk : k < v.expect.toNat) (hreceived : v.count k ≠ 0)
    (hsum : (∑ i ∈ Finset.range v.expect.toNat, (v.count i).toNat) + 1 < 2 ^ 32) :
    (v.tally (.correct k)).finalized.dup.toNat = v.finalized.dup.toNat + 1 ∧ (v.tally (.correct k)).finalized.miss = v.finalized.miss ∧
      (v.tally (.correct k)).finalized.ferq = v.finalized.ferq ∧ (v.tally (.correct k)).finalized.rcvd = v.finalized.rcvd := by
  have hcount : (v.count k).toNat ≤ _ := count_le_receptions hk
  have hle : v.duplicates v.expect.toNat ≤ _ := duplicates_le_receptions
  have hrecv : (v.tally (.correct k)).received v.expect.toNat = v.received v.expect.toNat := received_tally_correct hreceived
  have hdup := duplicates_tally_correct hk hreceived (by omega)
  obtain ⟨-, -, -, hbefore⟩ := finalized_toNat hmax
  obtain ⟨-, -, -, hafter⟩ := finalized_toNat (v := v.tally (.correct k)) hmax
  rw [tally_expect, hdup] at hafter
  have hfits : v.duplicates v.expect.toNat + 1 ≤ 2 ^ 32 - 1 := by omega
  rw [min_eq_left hfits] at hafter
  rw [min_eq_left (Nat.le_of_succ_le hfits)] at hbefore
  refine ⟨by rw [hafter, hbefore], ?_, ?_, ?_⟩ <;> simp only [VerRegs.finalized, tally_expect, hrecv]

end

/-- R172: verdict 0 is the correct packet's alone. -/
theorem exists_correct_of_number {d : Verdict} (h : BitVec.ofNat 32 d.number = 0) : ∃ k, d = .correct k := by
  cases d with
  | correct k => exact ⟨k, rfl⟩
  | wrongLength | mismatch _ | outOfRange _ => simp [Verdict.number] at h

/-- Settles O45: the second delivery finds the same verdict and an index already received. -/
theorem secondDeliveryIsOneDuplicate : Obligations.SecondDeliveryIsOneDuplicate := by
  unfold Obligations.SecondDeliveryIsOneDuplicate
  intro s t u a b hmax hopen hsum ht htcode hres hu ha hb
  obtain ⟨r, hr, -⟩ := ruleOf_ok_of_codeOf ht htcode
  obtain ⟨he, hl, hin, -⟩ := vpktRule_ok hr
  cases (exec_vpkt_of_verdict he hl hin rfl).symm.trans ht
  obtain ⟨k, hd⟩ := exists_correct_of_number hres
  rw [hd] at hu ha
  have hk := lt_of_verdict_correct hd
  cases hu.symm.trans (exec_vpkt_of_verdict he hl hin hd)
  cases ha.symm.trans (exec_vfin_of_finalize he (finalize_of_open hopen))
  cases hb.symm.trans (exec_vfin_of_finalize he (finalize_of_open hopen))
  have hcount : (s.ver.count k).toNat ≤ _ := count_le_receptions hk
  have hreceptions := receptions_tally_correct (v := s.ver) hk (by omega)
  have hreceived : (s.ver.tally (.correct k)).count k ≠ 0 := by
    rw [count_tally_correct]
    exact satInc_ne_zero _
  exact finalized_tally_correct (v := s.ver.tally (.correct k)) hmax hk hreceived (hreceptions ▸ hsum)

end Sys2Proof.Machine

/-! ## The scheduler's evaluation: one equation for each kind of turn, and the loop of R212 (43_doppler.md R202, R211-R216) -/

namespace Sys2Proof.Machine

open Sys2Proof.Claim

/-! ### What a turn does with a sample left to handle (R212) -/

section
variable {s : State}

/-- R212: a running scheduler with a sample left to handle. -/
structure HasNext (s : State) : Prop where
  run : s.dop.drun = true
  index : s.dop.idx.toNat < s.dop.cnt.toNat

theorem HasNext.idx_ne_cnt (h : HasNext s) : s.dop.idx ≠ s.dop.cnt := fun heq => h.index.ne (congrArg BitVec.toNat heq)

theorem hasNext_of_idx_ne_cnt (hrun : s.dop.drun = true) (hle : s.dop.idx.toNat ≤ s.dop.cnt.toNat) (hne : s.dop.idx ≠ s.dop.cnt) : HasNext s :=
  ⟨hrun, hle.lt_of_ne fun heq => hne (BitVec.eq_of_toNat_eq heq)⟩

/-- R215: a skip moves the index one sample on. -/
theorem HasNext.toNat_skip_idx (h : HasNext s) : s.skip.dop.idx.toNat = s.dop.idx.toNat + 1 := toNat_index_succ h.index

/-- R214: a publish moves the index one sample on. -/
theorem HasNext.toNat_publish_idx (h : HasNext s) : s.publish.dop.idx.toNat = s.dop.idx.toNat + 1 := toNat_index_succ h.index

theorem HasNext.latch (h : HasNext s) : HasNext s.latch := ⟨by simpa using h.run, by simpa using h.index⟩

theorem passed_of_wait (h : s.dop.phase = .wait) : s.passed = false := by simp [State.passed, h]

theorem passed_of_reach (h : s.dop.phase = .reach) : s.passed = decide (s.reached.t < s.dop.now.toNat) := by simp [State.passed, h]

theorem schedLoop_succ_of_hasNext (h : HasNext s) (n : Nat) :
    schedLoop (n + 1) s =
      if s.passed then schedLoop n s.skip
      else if s.latch.dop.lt ≤ s.latch.dop.now then schedLoop n s.latch.publish
      else s.latch := by
  rw [schedLoop_succ, if_neg (by simp [h.run]), if_neg h.idx_ne_cnt]

/-- Latching first changes nothing of the turn: the model latches and publishes in one turn, the rule's loop in the same. -/
theorem schedLoop_latch (h : HasNext s) (hpassed : s.passed = false) (n : Nat) : schedLoop (n + 1) s.latch = schedLoop (n + 1) s := by
  have hwait : s.latch.dop.phase = .wait := State.latch_dop_phase s
  rw [schedLoop_succ_of_hasNext h, schedLoop_succ_of_hasNext h.latch, passed_of_wait hwait, State.latch_of_wait _ hwait, hpassed,
    if_neg Bool.false_ne_true, if_neg Bool.false_ne_true]

/-- R212, R216: at the end of the table the run is over. -/
theorem schedEval_finished (hrun : s.dop.drun = true) (hidx : s.dop.idx = s.dop.cnt) : schedEval s = s.runDone := by
  rw [schedEval, schedLoop_succ, if_neg (by simp [hrun]), if_pos hidx]

/-- The turns left are one for each sample left and one to find the end, so a turn that handles a sample leaves an evaluation. -/
theorem schedLoop_eq_schedEval {t : State} (h : HasNext s) (hidx : t.dop.idx = s.dop.idx + 1) (hcnt : t.dop.cnt = s.dop.cnt) :
    schedLoop (s.dop.cnt.toNat - s.dop.idx.toNat) t = schedEval t := by
  have hlt := h.index
  rw [schedEval, hidx, hcnt, toNat_index_succ hlt]
  congr 1
  omega

/-- R212, R215: in phase REACH a sample whose time has passed is skipped, and the evaluation goes on. -/
theorem schedEval_skip (h : HasNext s) (hpassed : s.passed = true) : schedEval s = schedEval s.skip := by
  rw [← schedLoop_eq_schedEval h (State.skip_dop_idx s) (State.skip_dop_cnt s), schedEval, schedLoop_succ_of_hasNext h, if_pos hpassed]

/-- R212: in phase REACH a sample whose time has not passed is latched. -/
theorem schedEval_latch (h : HasNext s) (hpassed : s.passed = false) : schedEval s = schedEval s.latch := by
  rw [schedEval, schedEval, State.latch_dop_idx, State.latch_dop_cnt, schedLoop_latch h hpassed]

/-- R212, R214: in phase WAIT a sample whose time has come is published, and the evaluation goes on. -/
theorem schedEval_publish (h : HasNext s) (hwait : s.dop.phase = .wait) (hdue : s.dop.lt ≤ s.dop.now) : schedEval s = schedEval s.publish := by
  rw [← schedLoop_eq_schedEval h (State.publish_dop_idx s) (State.publish_dop_cnt s), schedEval, schedLoop_succ_of_hasNext h, passed_of_wait hwait,
    State.latch_of_wait s hwait, if_neg Bool.false_ne_true, if_pos hdue]

/-- R212: in phase WAIT a sample whose time is still ahead is waited for. -/
theorem schedEval_waits (h : HasNext s) (hwait : s.dop.phase = .wait) (hahead : s.dop.now < s.dop.lt) : schedEval s = s := by
  rw [schedEval, schedLoop_succ_of_hasNext h, passed_of_wait hwait, State.latch_of_wait s hwait, if_neg Bool.false_ne_true,
    if_neg (BitVec.not_le.2 hahead)]

end

/-! ### Induction over the samples an evaluation handles -/

/-- R212: a property of the state an evaluation starts from and the one it returns holds when each kind of last turn gives it, and each
turn that goes on carries it back. -/
theorem schedEval_induction {motive : State → State → Prop}
    (stopped : ∀ s : State, s.dop.idx.toNat ≤ s.dop.cnt.toNat → s.dop.drun = false → motive s s)
    (finished : ∀ s : State, s.dop.drun = true → s.dop.idx = s.dop.cnt → motive s s.runDone)
    (skips : ∀ s t : State, HasNext s → s.dop.phase = .reach → s.reached.t < s.dop.now.toNat → motive s.skip t → motive s t)
    (latches : ∀ s t : State, HasNext s → s.dop.phase = .reach → s.dop.now.toNat ≤ s.reached.t → motive s.latch t → motive s t)
    (publishes : ∀ s t : State, HasNext s → s.dop.phase = .wait → s.dop.lt ≤ s.dop.now → motive s.publish t → motive s t)
    (waits : ∀ s : State, HasNext s → s.dop.phase = .wait → s.dop.now < s.dop.lt → motive s s)
    (s : State) (hle : s.dop.idx.toNat ≤ s.dop.cnt.toNat) : motive s (schedEval s) := by
  induction hleft : s.dop.cnt.toNat - s.dop.idx.toNat using Nat.strong_induction_on generalizing s with
  | h n ih =>
    cases hrun : s.dop.drun with
    | false => rw [schedEval_stopped s hrun]; exact stopped s hle hrun
    | true =>
      by_cases hend : s.dop.idx = s.dop.cnt
      · rw [schedEval_finished hrun hend]; exact finished s hrun hend
      have hnext := hasNext_of_idx_ne_cnt hrun hle hend
      have hgoOn {u : State} (hidx : u.dop.idx = s.dop.idx + 1) (hcnt : u.dop.cnt = s.dop.cnt) : motive u (schedEval u) := by
        have hlt := hnext.index
        have hsucc := toNat_index_succ hlt
        exact ih _ (by rw [hidx, hcnt]; omega) u (by rw [hidx, hcnt]; omega) rfl
      have hwaiting {u : State} (hu : HasNext u) (hwait : u.dop.phase = .wait) (hidx : u.dop.idx = s.dop.idx) (hcnt : u.dop.cnt = s.dop.cnt) :
          motive u (schedEval u) := by
        by_cases hdue : u.dop.lt ≤ u.dop.now
        · rw [schedEval_publish hu hwait hdue]
          exact publishes u _ hu hwait hdue (hgoOn (by rw [State.publish_dop_idx, hidx]) hcnt)
        · rw [schedEval_waits hu hwait (BitVec.not_le.1 hdue)]
          exact waits u hu hwait (BitVec.not_le.1 hdue)
      cases hphase : s.dop.phase with
      | wait => exact hwaiting hnext hphase rfl rfl
      | reach =>
        by_cases htime : s.reached.t < s.dop.now.toNat
        · rw [schedEval_skip hnext (by rw [passed_of_reach hphase]; exact decide_eq_true htime)]
          exact skips s _ hnext hphase htime (hgoOn (State.skip_dop_idx s) (State.skip_dop_cnt s))
        · rw [schedEval_latch hnext (by rw [passed_of_reach hphase]; exact decide_eq_false htime)]
          exact latches s _ hnext hphase (not_lt.1 htime)
            (hwaiting hnext.latch (State.latch_dop_phase s) (State.latch_dop_idx s) (State.latch_dop_cnt s))

/-! ### The evaluation is the rule's loop (R212) -/

/-- R212: in phase REACH, latching writes the sample's two fields and the phase. -/
theorem latch_of_reach {s : State} (h : s.dop.phase = .reach) :
    s.latch = { s with dop := { s.dop with lt := BitVec.ofNat 64 s.reached.t, lr := enc64 s.reached.r, phase := .wait } } := by
  unfold State.latch
  rw [h]

/-- R212: the evaluation is a run of the rule's loop. -/
theorem evaluates_schedEval {s : State} (hle : s.dop.idx.toNat ≤ s.dop.cnt.toNat) : Evaluates s (schedEval s) := by
  refine schedEval_induction (motive := Evaluates) (fun _ _ => .stopped) (fun _ => .finished) ?_ ?_ ?_ ?_ s hle
  · exact fun s t hnext hphase htime hgo => .skips hnext.run hnext.idx_ne_cnt hphase htime hgo
  · exact fun s t hnext hphase htime hgo => .latches hnext.run hnext.idx_ne_cnt hphase htime (latch_of_reach hphase ▸ hgo)
  · exact fun s t hnext hphase htime hgo => .publishes hnext.run hnext.idx_ne_cnt hphase htime hgo
  · exact fun s hnext => .waits hnext.run hnext.idx_ne_cnt

/-- R212: the rule's loop returns with nothing but the evaluation. -/
theorem schedEval_of_evaluates {s t : State} (h : Evaluates s t) (hle : s.dop.idx.toNat ≤ s.dop.cnt.toNat) : t = schedEval s := by
  induction h with
  | stopped hrun => exact (schedEval_stopped _ hrun).symm
  | finished hrun hidx => exact (schedEval_finished hrun hidx).symm
  | @skips s t hrun hidx hphase htime _ ih =>
    have hnext := hasNext_of_idx_ne_cnt hrun hle hidx
    rw [schedEval_skip hnext (by rw [passed_of_reach hphase]; exact decide_eq_true htime)]
    exact ih (hnext.toNat_skip_idx.trans_le hnext.index)
  | @latches s t hrun hidx hphase htime _ ih =>
    have hnext := hasNext_of_idx_ne_cnt hrun hle hidx
    rw [schedEval_latch hnext (by rw [passed_of_reach hphase]; exact decide_eq_false (not_lt.2 htime)), latch_of_reach hphase]
    exact ih hle
  | @publishes s t hrun hidx hphase htime _ ih =>
    have hnext := hasNext_of_idx_ne_cnt hrun hle hidx
    rw [schedEval_publish hnext hphase htime]
    exact ih (hnext.toNat_publish_idx.trans_le hnext.index)
  | waits hrun hidx hphase htime => exact (schedEval_waits (hasNext_of_idx_ne_cnt hrun hle hidx) hphase htime).symm

/-- Settles O49: each turn of the rule's loop is an equation of the evaluation, and by induction over the samples left the other way round. -/
theorem schedulerEvaluationIsTheLoop : Obligations.SchedulerEvaluationIsTheLoop := by
  unfold Obligations.SchedulerEvaluationIsTheLoop
  intro s hle t
  exact ⟨fun h => schedEval_of_evaluates h hle, fun h => h ▸ evaluates_schedEval hle⟩

end Sys2Proof.Machine

/-! ## The Doppler commands DSHIFT, DSTART and DSTOP, and the tick (43_doppler.md R193, R201-R203, R211) -/

namespace Sys2Proof.Machine

open Sys2Proof.Claim

/-! ### DSHIFT (R193, R201) -/

/-- R193: the divisor and the saturation, written out. -/
theorem shift_eq_millihertz (f : DWord) (r : Int) : shift f.toNat r = millihertz f r := by
  rw [shift, millihertz, sat64, show (shiftDivisor : Int) = 299792458000 from rfl]
  omega

/-- R22, R193: a shift register read as two's complement gives the shift. -/
theorem toInt_enc64_shift (f : DWord) (r : Int) : (enc64 (shift f.toNat r)).toInt = millihertz f r := by
  obtain ⟨hlow, hhigh⟩ := sat64_range ((f.toNat * r : Int).tdiv shiftDivisor)
  exact (enc64_toInt _ hlow hhigh).trans (shift_eq_millihertz f r)

/-- Settles O48: both registers get the shift of R193, which fits 64 bits. -/
theorem dshiftComputesBothShifts : Obligations.DshiftComputesBothShifts := by
  unfold Obligations.DshiftComputesBothShifts
  refine ⟨decodeOfEncodeIsTheInstruction .dshift rfl, fun s => ?_⟩
  have hrule : ruleOf .dshift s = dshiftRule s := rfl
  exact ⟨enc64 (shift s.fDown s.rangeRate), enc64 (shift s.fUp s.rangeRate), exec_of_ok hrule, toInt_enc64_shift s.ctl.snap.dFdl s.rangeRate,
    toInt_enc64_shift s.ctl.snap.dFul s.rangeRate⟩

/-! ### DSTART and DSTOP (R202, R203) -/

section
variable {s : State}

theorem dstartRule_of_outOfBounds (h : inBounds s.a0 (16 * s.a1) = false) : dstartRule s = .error .bounds := if_pos h

theorem dstartRule_of_running (h : inBounds s.a0 (16 * s.a1) = true) (hrun : s.dop.drun = true) : dstartRule s = .error .schedBusy :=
  (if_neg (ne_false_of_eq_true h)).trans (if_pos hrun)

theorem dstartRule_of_empty (h : inBounds s.a0 (16 * s.a1) = true) (hrun : s.dop.drun = false) (hcount : s.a1 = 0) :
    dstartRule s = .error .emptyPlan :=
  (if_neg (ne_false_of_eq_true h)).trans ((if_neg (ne_true_of_eq_false hrun)).trans (if_pos hcount))

theorem dstartRule_of_idle (h : inBounds s.a0 (16 * s.a1) = true) (hrun : s.dop.drun = false) (hcount : s.a1 ≠ 0) :
    dstartRule s = .ok (schedEval (s.startRun s.ctl.snap.arg0 s.ctl.snap.arg1)) :=
  (if_neg (ne_false_of_eq_true h)).trans ((if_neg (ne_true_of_eq_false hrun)).trans (if_neg hcount))

end

/-- Memory that is the same reads the same. -/
theorem keepsBuf_of_buf {s t : State} (h : t.buf = s.buf) : keepsBuf s t := fun x => congrArg (Memory.byte · x) h

/-- Settles O50: the rule's cases; the run that is set up starts at index 0, so its evaluation is the rule's loop, with the frame of every
evaluation. -/
theorem dstartStartsAndEvaluatesTheRun : Obligations.DstartStartsAndEvaluatesTheRun := by
  unfold Obligations.DstartStartsAndEvaluatesTheRun
  refine ⟨decodeOfEncodeIsTheInstruction .dstart rfl, fun s => ⟨fun h => exec_failed (i := .dstart) (dstartRule_of_outOfBounds h),
    fun h hrun => exec_failed (i := .dstart) (dstartRule_of_running h hrun),
    fun h hrun hcount => exec_failed (i := .dstart) (dstartRule_of_empty h hrun hcount), fun h hrun hcount => ?_⟩⟩
  have hframe := schedEval_frame (s.startRun s.ctl.snap.arg0 s.ctl.snap.arg1)
  exact ⟨schedEval (s.startRun s.ctl.snap.arg0 s.ctl.snap.arg1), evaluates_schedEval (s := s.startRun _ _) (Nat.zero_le _),
    exec_of_ok (i := .dstart) (dstartRule_of_idle h hrun hcount), hframe.base, hframe.cnt, hframe.ctl, hframe.golay, hframe.prbs0, hframe.prbs1,
    hframe.ver, hframe.wsh, hframe.rsh, hframe.agenda, hframe.resp, keepsBuf_of_buf hframe.buf⟩

/-- Settles O51: the rule has one case; `RES0` holds the whole of `D_IDX`. -/
theorem dstopOnlyStopsTheRun : Obligations.DstopOnlyStopsTheRun := by
  unfold Obligations.DstopOnlyStopsTheRun
  refine ⟨decodeOfEncodeIsTheInstruction .dstop rfl, fun s => ?_⟩
  have hrule : ruleOf .dstop s = .ok { s with ctl := { s.ctl with res0 := s.dop.idx }, dop := { s.dop with drun := false } } := by
    rw [ruleOf, dstopRule, State.setRes0, BitVec.ofNat_toNat, BitVec.setWidth_eq]
  exact exec_of_ok hrule

/-! ### The tick (R211) -/

/-- R211: the time counter after a tick. -/
theorem tick_now (now : DWord) : now + BitVec.ofNat 64 Config.tickNs = BitVec.ofNat 64 (now.toNat + 10) := by
  rw [BitVec.ofNat_add, BitVec.ofNat_toNat, BitVec.setWidth_eq, Config.tickNs]

/-- Settles O54: a tick is the evaluation at the advanced time, with the frame of every evaluation. -/
theorem tickAdvancesTimeAndEvaluates : Obligations.TickAdvancesTimeAndEvaluates := by
  unfold Obligations.TickAdvancesTimeAndEvaluates
  intro s rest ha hle
  have hframe := schedEval_frame { s with agenda := rest, dop := { s.dop with now := BitVec.ofNat 64 (s.dop.now.toNat + 10) } }
  refine ⟨_, (step_tick ha).trans (by rw [tickStep, tick_now]), ?_, evaluates_schedEval hle, hframe.golay, hframe.prbs0, hframe.prbs1, hframe.ver,
    hframe.wsh, hframe.rsh, hframe.agenda, hframe.resp, hframe.ctl, keepsBuf_of_buf hframe.buf⟩
  rw [hframe.now, BitVec.toNat_ofNat]

/-! ### Which steps run the scheduler (R213, R217) -/

/-- What only an evaluation changes: the scheduler's registers and the publish history. -/
def KeepsSchedule (s t : State) : Prop := schedView t.dop = schedView s.dop ∧ t.history = s.history

/-- R213: the rule of every command but DSTART keeps the schedule, and starts no run. -/
theorem keepsSchedule_ruleOf {i : Instr} {s t : State} (hi : i ≠ .dstart) (h : ruleOf i s = .ok t) :
    KeepsSchedule s t ∧ (s.dop.drun = false → t.dop.drun = false) := by
  cases i with
  | dstart => exact absurd rfl hi
  | dstop => cases h; exact ⟨⟨rfl, rfl⟩, fun _ => rfl⟩
  | nop | genc | gdec | dshift => cases h; exact ⟨⟨rfl, rfl⟩, id⟩
  | pcfg u sel => obtain ⟨-, -, rfl⟩ := pcfgRule_ok h; simp [KeepsSchedule]
  | pgen u => obtain ⟨-, -, rfl⟩ := pgenRule_ok h; simp [KeepsSchedule]
  | pgeno u => obtain ⟨-, -, rfl⟩ := pgenoRule_ok h; exact ⟨⟨rfl, rfl⟩, id⟩
  | pseq u => obtain ⟨-, -, -, -, rfl⟩ := pseqRule_ok h; exact ⟨⟨rfl, rfl⟩, id⟩
  | gencf => obtain ⟨-, -, -, rfl⟩ := gencfRule_ok h; exact ⟨⟨rfl, rfl⟩, id⟩
  | gdecf => obtain ⟨-, -, -, -, rfl⟩ := gdecfRule_ok h; exact ⟨⟨rfl, rfl⟩, id⟩
  | vcfg => obtain ⟨-, -, -, -, rfl⟩ := vcfgRule_ok h; exact ⟨⟨rfl, rfl⟩, id⟩
  | vseen => obtain ⟨-, rfl⟩ := vseenRule_ok h; exact ⟨⟨rfl, rfl⟩, id⟩
  | vpkt => obtain ⟨-, -, -, rfl⟩ := vpktRule_ok h; exact ⟨⟨rfl, rfl⟩, id⟩
  | vfin => obtain ⟨-, rfl⟩ := vfinRule_ok h; exact ⟨⟨rfl, rfl⟩, id⟩
  | dinterp => obtain ⟨-, -, -, -, rfl⟩ := dinterpRule_ok h; exact ⟨⟨rfl, rfl⟩, id⟩

/-- R213: the execution of every command but DSTART keeps the schedule, and starts no run. -/
theorem keepsSchedule_exec {i : Instr} {s t : State} (hi : i ≠ .dstart) (h : exec i s = .next t) :
    KeepsSchedule s t ∧ (s.dop.drun = false → t.dop.drun = false) := by
  obtain ⟨r, hr, rfl⟩ | ⟨e, -, rfl⟩ := exec_next_cases h
  · exact keepsSchedule_ruleOf (t := r) hi hr
  · exact ⟨⟨rfl, rfl⟩, id⟩

/-- R213, R217: the engine's execution of a pending word that is no DSTART keeps the schedule, and starts no run. -/
theorem keepsSchedule_engineStep {s t : State} (hcmd : decode s.ctl.cmd ≠ .ok .dstart) (h : engineStep s = .next t) :
    KeepsSchedule s t ∧ (s.dop.drun = false → t.dop.drun = false) := by
  unfold engineStep at h
  split at h
  · rename_i i hdecode
    exact keepsSchedule_exec (fun hi => hcmd (hi ▸ hdecode)) h
  · cases h
    exact ⟨⟨rfl, rfl⟩, id⟩

/-- What a host access leaves alone that runs no evaluation and resets nothing: the schedule, the run flag and the shift registers. -/
def KeepsRun (s t : State) : Prop := KeepsSchedule s t ∧ t.dop.drun = s.dop.drun ∧ t.dop.dl = s.dop.dl ∧ t.dop.ul = s.dop.ul

theorem KeepsRun.of_eq {s t : State} (hdop : t.dop = s.dop) (hhistory : t.history = s.history) : KeepsRun s t := by
  simp [KeepsRun, KeepsSchedule, hdop, hhistory]

/-- R96: a register read keeps the run. -/
theorem keepsRun_afterRead (s : State) (r : Reg) : KeepsRun s (afterRead s r) := by
  cases r with
  | lo q => exact .of_eq (State.latchRead_dop s q _) (State.latchRead_history s q _)
  | _ => exact .of_eq rfl rfl

/-- R213: of the register writes only those of `D_NOW_HI` and `CTRL` reach the run. -/
theorem keepsRun_writeReg {r : Reg} (hnow : r ≠ .hi .now) (hctrl : r ≠ .ctrl) (s : State) (v : Word) : KeepsRun s (writeReg s r v) := by
  cases r with
  | ctrl => exact absurd rfl hctrl
  | cmd => simp only [writeReg, State.writeCmd]; split <;> exact .of_eq rfl rfl
  | lo q => exact .of_eq (State.writeLo_dop s q v) (State.writeLo_history s q v)
  | hi q =>
    cases q with
    | now => exact absurd rfl hnow
    | _ => exact ⟨⟨rfl, rfl⟩, rfl, rfl, rfl⟩
  | _ => exact .of_eq rfl rfl

/-- R213: a host access that is no write of `D_NOW_HI` or `CTRL` keeps the run. -/
theorem keepsRun_hostEffect {a : HostAccess} {s t : State} (h : HostEffect s a t) (ha : ∀ w v, a ≠ .write 0x104 w v ∧ a ≠ .write 0x018 w v) :
    KeepsRun s t := by
  cases h with
  | busError => exact .of_eq rfl rfl
  | answered => exact .of_eq rfl rfl
  | readReg _ r d => exact keepsRun_afterRead s r
  | writeReg r w v =>
    exact keepsRun_writeReg (fun hr => (ha w v).1 (by rw [hr]; rfl)) (fun hr => (ha w v).2 (by rw [hr]; rfl)) s v
  | store => exact .of_eq rfl rfl

/-- R53, R88, R213: a word write to `D_NOW_HI` commits the time with the shadow as its low half, evaluates and answers. -/
theorem hostStep_write_nowHi (s : State) (v : Word) :
    hostStep (.write 0x104 4 v) s = .next ((schedEval { s with dop := { s.dop with now := v ++ s.wsh.now } }).respond 0) := by
  rw [hostStep_write_of_reg (route_register (by decide)), regWriteStep_of_regAt (r := .hi .now) (by decide) (by decide)]
  rfl

/-- Settles O53: commands and host accesses by what they keep, and the commit of `D_NOW` by the evaluation it runs. -/
theorem onlyThreeKindsOfStepRunTheScheduler : Obligations.OnlyThreeKindsOfStepRunTheScheduler := by
  unfold Obligations.OnlyThreeKindsOfStepRunTheScheduler
  refine ⟨fun i s t hi h => (keepsSchedule_exec hi h).1, fun a s t h ha => ?_, fun s v hle => ?_⟩
  · obtain ⟨⟨hview, hhistory⟩, hrest⟩ := keepsRun_hostEffect (hostEffect_of_hostStep h) ha
    exact ⟨hview, hhistory, hrest⟩
  · exact ⟨_, evaluates_schedEval hle, hostStep_write_nowHi s v⟩

/-- No record is added to the history, and no run is active. -/
def StaysStopped (s t : State) : Prop := t.history = s.history ∧ t.dop.drun = false

/-- R212, R217: with no run active an evaluation, at whatever time, publishes nothing and starts no run. -/
theorem staysStopped_schedEval {s : State} (hstop : s.dop.drun = false) (now : DWord) :
    StaysStopped s (schedEval { s with dop := { s.dop with now := now } }) := by
  have hstopped : schedEval { s with dop := { s.dop with now := now } } = { s with dop := { s.dop with now := now } } :=
    schedEval_stopped _ hstop
  rw [hstopped]
  exact ⟨rfl, hstop⟩

/-- R217: with no run active a host access publishes nothing and starts no run. -/
theorem staysStopped_hostEffect {a : HostAccess} {s t : State} (hstop : s.dop.drun = false) (h : HostEffect s a t) : StaysStopped s t := by
  have hkeeps {u : State} (hu : KeepsRun s u) : StaysStopped s u := ⟨hu.1.2, hu.2.1.trans hstop⟩
  cases h with
  | busError => exact ⟨rfl, hstop⟩
  | answered => exact ⟨rfl, hstop⟩
  | readReg _ r d => exact hkeeps (keepsRun_afterRead s r)
  | writeReg r w v =>
    by_cases hnow : r = .hi .now
    · subst hnow; exact staysStopped_schedEval hstop (v ++ s.wsh.now)
    by_cases hctrl : r = .ctrl
    · subst hctrl
      simp only [writeReg, State.writeCtrl]
      split
      · exact ⟨rfl, rfl⟩
      · exact ⟨rfl, hstop⟩
    exact hkeeps (keepsRun_writeReg hnow hctrl s v)
  | store => exact ⟨rfl, hstop⟩

/-- R256: what a step can be, by the agent that steps; `engineSteps` says of a state that its step executes the pending command. -/
theorem step_next_agents {s t : State} (h : step s = .next t) : ∃ rest,
    t = { s with agenda := rest } ∨ t = tickStep { s with agenda := rest } ∨ (engineSteps s ∧ engineStep { s with agenda := rest } = .next t) ∨
      ∃ a, HostEffect { s with agenda := rest } a t := by
  cases ha : s.agenda with
  | nil =>
    refine ⟨s.agenda, ?_⟩
    cases hbusy : s.ctl.busy with
    | true => exact .inr (.inr (.inl ⟨⟨hbusy, .inl ha⟩, (step_idle_busy ha hbusy).symm.trans h⟩))
    | false =>
      have hidle : idleStep s = .next (tickStep s) := if_neg (ne_true_of_eq_false hbusy)
      cases hidle.symm.trans ((step_idle ha).symm.trans h)
      exact .inr (.inl rfl)
  | cons e rest =>
    cases e with
    | tick => cases (step_tick ha).symm.trans h; exact ⟨rest, .inr (.inl rfl)⟩
    | engine =>
      refine ⟨rest, ?_⟩
      cases hbusy : s.ctl.busy with
      | true => exact .inr (.inr (.inl ⟨⟨hbusy, .inr (.inl ⟨rest, ha⟩)⟩, (step_engine_busy ha hbusy).symm.trans h⟩))
      | false =>
        have hturn : engineTurn { s with agenda := rest } = .next { s with agenda := rest } := if_neg (ne_true_of_eq_false hbusy)
        cases hturn.symm.trans ((step_engine ha).symm.trans h)
        exact .inl rfl
    | host a =>
      cases hh : s.holds a with
      | true =>
        have hbusy : s.ctl.busy = true := by
          unfold State.holds at hh
          split at hh
          · exact hh
          · cases hh
          · cases hh
        exact ⟨s.agenda, .inr (.inr (.inl ⟨⟨hbusy, .inr (.inr ⟨a, rest, ha, hh⟩)⟩, (step_held ha hh).symm.trans h⟩))⟩
      | false => exact ⟨rest, .inr (.inr (.inr ⟨a, hostEffect_of_hostStep ((step_host ha hh).symm.trans h)⟩))⟩

/-- Settles O52: a tick and a commit of `D_NOW` evaluate a stopped scheduler, no command but DSTART starts a run, and no other access reaches
the run but a soft reset, which stops it. -/
theorem nothingIsPublishedAfterTheStop : Obligations.NothingIsPublishedAfterTheStop := by
  unfold Obligations.NothingIsPublishedAfterTheStop
  intro s t hstop hstep hother
  obtain ⟨rest, rfl | rfl | ⟨hengine, h⟩ | ⟨a, h⟩⟩ := step_next_agents hstep
  · exact ⟨rfl, hstop⟩
  · exact staysStopped_schedEval (s := { s with agenda := rest }) hstop _
  · obtain ⟨⟨-, hhistory⟩, hrun⟩ := keepsSchedule_engineStep (s := { s with agenda := rest }) (fun hcmd => hother ⟨hengine, hcmd⟩) h
    exact ⟨hhistory, hrun hstop⟩
  · exact staysStopped_hostEffect (s := { s with agenda := rest }) hstop h

end Sys2Proof.Machine

/-! ## What an evaluation publishes, skips and leaves (43_doppler.md R214-R218) -/

namespace Sys2Proof.Machine

open Sys2Proof.Claim

/-! ### Samples (R60, R97, R191) -/

/-- R190, R191: a sample's fields fit their registers: latching loses nothing. -/
theorem sampleAt_latched (m : Memory) (a i : Nat) :
    (BitVec.ofNat 64 (sampleAt m a i).t).toNat = (sampleAt m a i).t ∧ (enc64 (sampleAt m a i).r).toInt = (sampleAt m a i).r := by
  have ht : (sampleAt m a i).t < 2 ^ 64 := by
    have hlt := leValue_lt (m.bytes (a + 16 * i) 8)
    rwa [Memory.bytes_length] at hlt
  refine ⟨Nat.mod_eq_of_lt ht, ?_⟩
  rw [enc64, sampleAt, BitVec.ofInt_toInt]

section
variable {s : State} {i : Nat}

theorem dueSample_of_reach (h : s.dop.phase = .reach) : dueSample s i = sampleAt s.buf s.dop.base.toNat i := if_neg (by simp [h])

theorem dueSample_of_ne (h : i ≠ s.dop.idx.toNat) : dueSample s i = sampleAt s.buf s.dop.base.toNat i := if_neg (by simp [h])

theorem dueSample_of_wait (h : s.dop.phase = .wait) : dueSample s s.dop.idx.toNat = { t := s.dop.lt.toNat, r := s.dop.lr.toInt } :=
  if_pos ⟨h, rfl⟩

/-- R212: latching changes no due sample. -/
theorem dueSample_latch (h : s.dop.phase = .reach) (i : Nat) : dueSample s.latch i = dueSample s i := by
  rw [dueSample_of_reach h]
  by_cases hi : i = s.dop.idx.toNat
  · obtain ⟨ht, hr⟩ := sampleAt_latched s.buf s.dop.base.toNat i
    subst hi
    have hdue := dueSample_of_wait (State.latch_dop_phase s)
    rw [State.latch_dop_idx, State.latch_dop_lt_of_reach s h, State.latch_dop_lr_of_reach s h, State.reached, ht, hr] at hdue
    rw [hdue]
  · rw [dueSample_of_ne (by rwa [State.latch_dop_idx]), State.latch_buf, State.latch_dop_base]

/-- R97, R212: after a skip or a publish the samples still to handle are the ones in BUF, as before. -/
theorem dueSample_next {u : State} (hphase : u.dop.phase = .reach) (hframe : SchedFrame s u) (hi : s.dop.idx.toNat < i) :
    dueSample u i = dueSample s i := by
  rw [dueSample_of_reach hphase, hframe.buf, hframe.base, dueSample_of_ne hi.ne']

/-- R214: the record of a sample is made of its due sample, the time and the carriers. -/
theorem publishOf_congr {u : State} (hframe : SchedFrame s u) (hdue : dueSample u i = dueSample s i) : publishOf u i = publishOf s i := by
  rw [publishOf, publishOf, hdue, hframe.now, hframe.fdl, hframe.ful]

end

/-! ### What the turns of an evaluation add up to -/

/-- R212, R215, R218 (a), (c): an evaluation from `s` that returns `t` handles the samples from one index to the other in order, publishing
those of `published` and skipping the others. -/
structure HandlesSamples (s t : State) (published : List Nat) : Prop where
  index_le : s.dop.idx.toNat ≤ t.dop.idx.toNat
  index_le_count : t.dop.idx.toNat ≤ s.dop.cnt.toNat
  ordered : published.Pairwise (· < ·)
  range : ∀ i ∈ published, s.dop.idx.toNat ≤ i ∧ i < t.dop.idx.toNat
  due : ∀ i ∈ published, (dueSample s i).t ≤ s.dop.now.toNat
  passed : ∀ i, s.dop.idx.toNat ≤ i → i < t.dop.idx.toNat → i ∉ published →
    (s.dop.phase = .reach ∨ i ≠ s.dop.idx.toNat) ∧ (dueSample s i).t < s.dop.now.toNat
  onTime : ∀ i ∈ published, (s.dop.phase = .reach ∨ i ≠ s.dop.idx.toNat) → (dueSample s i).t = s.dop.now.toNat

/-- R57, R214: the shift registers and the timestamp that a publish leaves. -/
def Publish.outputs (p : Publish) : DWord × DWord × DWord := (enc64 p.dl, enc64 p.ul, p.t)

/-- R57: the published shifts and their sample's time. -/
def State.outputs (s : State) : DWord × DWord × DWord := (s.dop.dl, s.dop.ul, s.dop.pt)

/-- R57, R59, R68, R214: what an evaluation that publishes the samples of `published` leaves of them. -/
structure LeavesPublishes (s t : State) (published : List Nat) : Prop where
  history : t.history = s.history ++ published.map (publishOf s)
  outputs : t.outputs = (published.map (publishOf s)).foldl (fun _ p => p.outputs) s.outputs
  counter : t.dop.pubn.toNat = min (s.dop.pubn.toNat + published.length) (2 ^ 32 - 1)
  pending : t.ctl.irqPend.getLsbD 3 = (s.ctl.irqPend.getLsbD 3 || decide (published ≠ []))

/-- R59, R215: what an evaluation that publishes the samples of `published` leaves of those it skips. -/
structure LeavesSkips (s t : State) (published : List Nat) : Prop where
  length_le : published.length ≤ t.dop.idx.toNat - s.dop.idx.toNat
  counter : t.dop.skipn.toNat = min (s.dop.skipn.toNat + (t.dop.idx.toNat - s.dop.idx.toNat - published.length)) (2 ^ 32 - 1)
  pending : t.ctl.irqPend.getLsbD 4 = (s.ctl.irqPend.getLsbD 4 || decide (published.length < t.dop.idx.toNat - s.dop.idx.toNat))

/-- R212, R216, R248: how an evaluation leaves the run: over at the end of the table, or waiting for the next sample, latched. -/
structure LeavesRun (s t : State) : Prop where
  pending : t.ctl.irqPend.getLsbD 5 = (s.ctl.irqPend.getLsbD 5 || (s.dop.drun && !t.dop.drun))
  others : ∀ b < 3, t.ctl.irqPend.getLsbD b = s.ctl.irqPend.getLsbD b
  finished : s.dop.drun = true → t.dop.drun = false → t.dop.idx = s.dop.cnt
  waiting : t.dop.drun = true → t.dop.phase = .wait ∧ t.dop.idx.toNat < s.dop.cnt.toNat ∧ t.dop.now < t.dop.lt
  latched : t.dop.drun = true → t.dop.lt.toNat = (dueSample s t.dop.idx.toNat).t ∧ t.dop.lr.toInt = (dueSample s t.dop.idx.toNat).r

/-! ### Turns that return (R212, R216) -/

section
variable {s : State}

theorem handlesSamples_nil {t : State} (hle : s.dop.idx.toNat ≤ s.dop.cnt.toNat) (hidx : t.dop.idx = s.dop.idx) : HandlesSamples s t [] where
  index_le := (congrArg BitVec.toNat hidx).ge
  index_le_count := hidx ▸ hle
  ordered := .nil
  range := nofun
  due := nofun
  passed i hlow hhigh := absurd hhigh (by rw [hidx]; exact not_lt.2 hlow)
  onTime := nofun

theorem leavesPublishes_nil {t : State} (hhistory : t.history = s.history) (houtputs : t.outputs = s.outputs) (hpubn : t.dop.pubn = s.dop.pubn)
    (hpending : t.ctl.irqPend.getLsbD 3 = s.ctl.irqPend.getLsbD 3) : LeavesPublishes s t [] where
  history := by rw [hhistory, List.map_nil, List.append_nil]
  outputs := houtputs
  counter := by
    have := s.dop.pubn.isLt
    rw [hpubn, List.length_nil]
    omega
  pending := by rw [hpending]; simp

theorem leavesSkips_nil {t : State} (hidx : t.dop.idx = s.dop.idx) (hskipn : t.dop.skipn = s.dop.skipn)
    (hpending : t.ctl.irqPend.getLsbD 4 = s.ctl.irqPend.getLsbD 4) : LeavesSkips s t [] where
  length_le := Nat.zero_le _
  counter := by
    have := s.dop.skipn.isLt
    rw [hskipn, hidx, List.length_nil]
    omega
  pending := by rw [hpending, hidx]; simp

theorem leavesRun_stopped (h : s.dop.drun = false) : LeavesRun s s where
  pending := by simp
  others _ _ := rfl
  finished hrun := by simp [h] at hrun
  waiting hrun := by simp [h] at hrun
  latched hrun := by simp [h] at hrun

theorem leavesRun_runDone (hrun : s.dop.drun = true) (hidx : s.dop.idx = s.dop.cnt) : LeavesRun s s.runDone where
  pending := by simp [hrun, irqDDone]
  others b hb := by
    rw [State.runDone_ctl_irqPend, BitVec.getLsbD_or]
    obtain rfl | rfl | rfl : b = 0 ∨ b = 1 ∨ b = 2 := by omega
    all_goals exact Bool.or_false _
  finished _ _ := hidx
  waiting := nofun
  latched := nofun

theorem leavesRun_waits (h : HasNext s) (hphase : s.dop.phase = .wait) (hahead : s.dop.now < s.dop.lt) : LeavesRun s s where
  pending := by simp
  others _ _ := rfl
  finished _ hstop := by simp [h.run] at hstop
  waiting _ := ⟨hphase, h.index, hahead⟩
  latched _ := by rw [dueSample_of_wait hphase]; exact ⟨rfl, rfl⟩

end

/-! ### Turns that go on (R212, R214, R215) -/

section
variable {s t : State} {published : List Nat}

/-- D34: a saturating counter, one event and then `n` more, has counted `n + 1`. -/
theorem min_satInc_add (c : Word) (n : Nat) : min ((satInc c).toNat + n) (2 ^ 32 - 1) = min (c.toNat + (n + 1)) (2 ^ 32 - 1) := by
  rw [satInc_toNat]
  omega

/-- R212, R218 (c): the samples behind the one at `s`'s index, which an evaluation reaches at the current time: those of `published` are on time,
the others have passed. -/
structure HandlesBehind (s t : State) (published : List Nat) : Prop where
  index_lt : s.dop.idx.toNat < t.dop.idx.toNat
  index_le_count : t.dop.idx.toNat ≤ s.dop.cnt.toNat
  ordered : published.Pairwise (· < ·)
  range : ∀ i ∈ published, s.dop.idx.toNat < i ∧ i < t.dop.idx.toNat
  onTime : ∀ i ∈ published, (dueSample s i).t = s.dop.now.toNat
  passed : ∀ i, s.dop.idx.toNat < i → i < t.dop.idx.toNat → i ∉ published → (dueSample s i).t < s.dop.now.toNat

/-- R212: what is handled after a turn that skips or publishes is what stands behind its sample. -/
theorem HandlesSamples.behind {u : State} (h : HandlesSamples u t published) (hphase : u.dop.phase = .reach) (hframe : SchedFrame s u)
    (hidx : u.dop.idx.toNat = s.dop.idx.toNat + 1) : HandlesBehind s t published := by
  obtain ⟨hlow, hcount, hordered, hrange, -, hpassed, honTime⟩ := h
  have hdue {i : Nat} (hi : s.dop.idx.toNat < i) : dueSample u i = dueSample s i := dueSample_next hphase hframe hi
  have hbehind (i : Nat) (hi : i ∈ published) : s.dop.idx.toNat < i := by
    have := (hrange i hi).1
    omega
  rw [hframe.now] at hpassed honTime
  exact {
    index_lt := by omega
    index_le_count := hframe.cnt ▸ hcount
    ordered := hordered
    range := fun i hi => ⟨hbehind i hi, (hrange i hi).2⟩
    onTime := fun i hi => hdue (hbehind i hi) ▸ honTime i hi (.inl hphase)
    passed := fun i hi hlt hnot => hdue hi ▸ (hpassed i (hidx ▸ hi) hlt hnot).2 }

/-- R215: a skipped sample's time has passed. -/
theorem HandlesSamples.of_skip (h : HandlesBehind s t published) (hphase : s.dop.phase = .reach) (htime : s.reached.t < s.dop.now.toNat) :
    HandlesSamples s t published where
  index_le := h.index_lt.le
  index_le_count := h.index_le_count
  ordered := h.ordered
  range i hi := ⟨(h.range i hi).1.le, (h.range i hi).2⟩
  due i hi := (h.onTime i hi).le
  passed i hi hlt hnot := by
    refine ⟨.inl hphase, ?_⟩
    obtain heq | hgt := hi.eq_or_lt
    · rw [← heq, dueSample_of_reach hphase]
      exact htime
    · exact h.passed i hgt hlt hnot
  onTime i hi _ := h.onTime i hi

/-- R214: a published sample is the latched one, whose time has come. -/
theorem HandlesSamples.of_publish (h : HandlesBehind s t published) (hphase : s.dop.phase = .wait) (htime : s.dop.lt ≤ s.dop.now) :
    HandlesSamples s t (s.dop.idx.toNat :: published) where
  index_le := h.index_lt.le
  index_le_count := h.index_le_count
  ordered := List.pairwise_cons.2 ⟨fun i hi => (h.range i hi).1, h.ordered⟩
  range := List.forall_mem_cons.2 ⟨⟨le_rfl, h.index_lt⟩, fun i hi => ⟨(h.range i hi).1.le, (h.range i hi).2⟩⟩
  due := List.forall_mem_cons.2 ⟨by rw [dueSample_of_wait hphase]; exact htime, fun i hi => (h.onTime i hi).le⟩
  passed i hi hlt hnot := by
    obtain ⟨hne, hnot⟩ := not_or.1 (mt List.mem_cons.2 hnot)
    exact ⟨.inr hne, h.passed i (hi.lt_of_ne' hne) hlt hnot⟩
  onTime := List.forall_mem_cons.2 ⟨fun hor => by simp [hphase] at hor, fun i hi _ => h.onTime i hi⟩

/-- R212: a latched sample whose time has not passed is published, if at all, at its time. -/
theorem HandlesSamples.of_latch (h : HandlesSamples s.latch t published) (hphase : s.dop.phase = .reach)
    (htime : s.dop.now.toNat ≤ s.reached.t) : HandlesSamples s t published := by
  have hdue := funext (dueSample_latch hphase)
  obtain ⟨hlow, hcount, hordered, hrange, hdues, hpassed, honTime⟩ := h
  rw [State.latch_dop_idx] at hlow hrange hpassed honTime
  rw [State.latch_dop_now, hdue] at hdues hpassed honTime
  rw [State.latch_dop_cnt] at hcount
  refine ⟨hlow, hcount, hordered, hrange, hdues, fun i hi hlt hnot => ⟨.inl hphase, (hpassed i hi hlt hnot).2⟩, fun i hi _ => ?_⟩
  by_cases heq : i = s.dop.idx.toNat
  · refine (hdues i hi).antisymm ?_
    rw [heq, dueSample_of_reach hphase]
    exact htime
  · exact honTime i hi (.inr heq)

/-- R214: samples due alike give the same records before a turn and after it. -/
theorem map_publishOf_congr {u : State} (hframe : SchedFrame s u) (hdue : ∀ i ∈ published, dueSample u i = dueSample s i) :
    published.map (publishOf u) = published.map (publishOf s) :=
  List.map_congr_left fun i hi => publishOf_congr hframe (hdue i hi)

/-- R215: a skip publishes nothing. -/
theorem LeavesPublishes.of_skip (h : LeavesPublishes s.skip t published) (hmap : published.map (publishOf s.skip) = published.map (publishOf s)) :
    LeavesPublishes s t published where
  history := by rw [h.history, hmap]; rfl
  outputs := by rw [h.outputs, hmap]; rfl
  counter := h.counter
  pending := by rw [h.pending, State.skip_ctl_irqPend]; simp [irqDSkip]

/-- R212: latching publishes nothing. -/
theorem LeavesPublishes.of_latch (h : LeavesPublishes s.latch t published) (hphase : s.dop.phase = .reach) : LeavesPublishes s t published := by
  obtain ⟨hhistory, houtputs, hcounter, hpending⟩ := h
  have hmap : published.map (publishOf s.latch) = published.map (publishOf s) :=
    map_publishOf_congr (latch_frame s) fun i _ => dueSample_latch hphase i
  have houtputs' : s.latch.outputs = s.outputs := by simp [State.outputs]
  rw [State.latch_history, hmap] at hhistory
  rw [houtputs', hmap] at houtputs
  rw [State.latch_dop_pubn] at hcounter
  rw [State.latch_ctl] at hpending
  exact ⟨hhistory, houtputs, hcounter, hpending⟩

/-- R214: the record of the latched sample is the one a publish appends. -/
theorem publishOf_latched (hphase : s.dop.phase = .wait) :
    publishOf s s.dop.idx.toNat = { t := s.dop.lt, now := s.dop.now, dl := s.latchedDl, ul := s.latchedUl } := by
  rw [publishOf, dueSample_of_wait hphase, State.latchedDl, State.latchedUl, shift_eq_millihertz, shift_eq_millihertz, BitVec.ofNat_toNat,
    BitVec.setWidth_eq]

/-- R214: a publish adds the latched sample's record before those that follow. -/
theorem LeavesPublishes.of_publish (h : LeavesPublishes s.publish t published) (hphase : s.dop.phase = .wait)
    (hmap : published.map (publishOf s.publish) = published.map (publishOf s)) : LeavesPublishes s t (s.dop.idx.toNat :: published) where
  history := by rw [h.history, hmap, State.publish_history, List.map_cons, publishOf_latched hphase, List.append_assoc,
    List.singleton_append]
  outputs := by rw [h.outputs, hmap, List.map_cons, List.foldl_cons, publishOf_latched hphase]; rfl
  counter := by rw [h.counter, State.publish_dop_pubn, min_satInc_add, List.length_cons]
  pending := by rw [h.pending, State.publish_ctl_irqPend]; simp [irqDPub]

/-- R215: a skip counts one sample that is handled and not published. -/
theorem LeavesSkips.of_skip (h : LeavesSkips s.skip t published) (hnext : HasNext s) (hlow : s.skip.dop.idx.toNat ≤ t.dop.idx.toNat) :
    LeavesSkips s t published := by
  obtain ⟨hlength, hcounter, hpending⟩ := h
  have hidx := hnext.toNat_skip_idx
  rw [State.skip_dop_skipn, min_satInc_add] at hcounter
  have hskipped : published.length < t.dop.idx.toNat - s.dop.idx.toNat := by omega
  have hleft : t.dop.idx.toNat - s.dop.idx.toNat - published.length = t.dop.idx.toNat - s.skip.dop.idx.toNat - published.length + 1 := by omega
  refine ⟨by omega, by rw [hcounter, hleft], ?_⟩
  rw [hpending, State.skip_ctl_irqPend]
  simp [irqDSkip, hskipped]

/-- R212: latching skips nothing. -/
theorem LeavesSkips.of_latch (h : LeavesSkips s.latch t published) : LeavesSkips s t published := by
  obtain ⟨hlength, hcounter, hpending⟩ := h
  rw [State.latch_dop_idx] at hlength hcounter hpending
  rw [State.latch_dop_skipn] at hcounter
  rw [State.latch_ctl] at hpending
  exact ⟨hlength, hcounter, hpending⟩

/-- R214: a publish handles one sample more and skips none. -/
theorem LeavesSkips.of_publish (h : LeavesSkips s.publish t published) (hnext : HasNext s) (hlow : s.publish.dop.idx.toNat ≤ t.dop.idx.toNat) :
    LeavesSkips s t (s.dop.idx.toNat :: published) := by
  obtain ⟨hlength, hcounter, hpending⟩ := h
  have hidx := hnext.toNat_publish_idx
  have hhandled : t.dop.idx.toNat - s.dop.idx.toNat = t.dop.idx.toNat - s.publish.dop.idx.toNat + 1 := by omega
  rw [State.publish_dop_skipn] at hcounter
  refine ⟨by rw [List.length_cons]; omega, by rw [List.length_cons]; omega, ?_⟩
  rw [hpending, State.publish_ctl_irqPend, List.length_cons, hhandled]
  simp [irqDPub]

/-- A turn that sets no other pending bit than 3 and 4 and keeps the run and the due samples leaves the run as the rest of the evaluation does. -/
theorem LeavesRun.of_turn {u : State} (h : LeavesRun u t) (hframe : SchedFrame s u) (hrun : u.dop.drun = s.dop.drun)
    (hpending : ∀ b, b < 3 ∨ b = 5 → u.ctl.irqPend.getLsbD b = s.ctl.irqPend.getLsbD b)
    (hdue : dueSample u t.dop.idx.toNat = dueSample s t.dop.idx.toNat) : LeavesRun s t where
  pending := by rw [h.pending, hpending 5 (.inr rfl), hrun]
  others b hb := (h.others b hb).trans (hpending b (.inl hb))
  finished hs ht := hframe.cnt ▸ h.finished (hrun.trans hs) ht
  waiting ht := hframe.cnt ▸ h.waiting ht
  latched ht := hdue ▸ h.latched ht

/-- R248: setting bit 3 or 4 leaves bits 0 to 2 and 5 alone. -/
theorem getLsbD_or_schedPend {x y : BitVec 6} (hy : y = irqDPub ∨ y = irqDSkip) {b : Nat} (hb : b < 3 ∨ b = 5) :
    (x ||| y).getLsbD b = x.getLsbD b := by
  rw [BitVec.getLsbD_or]
  obtain rfl | rfl | rfl | rfl : b = 0 ∨ b = 1 ∨ b = 2 ∨ b = 5 := by omega
  all_goals rcases hy with rfl | rfl <;> exact Bool.or_false _

/-! ### An evaluation, whole -/

/-- All that an evaluation from `s` that returns `t` does, publishing the samples of `published`. -/
structure EvaluationLeaves (s t : State) (published : List Nat) : Prop where
  samples : HandlesSamples s t published
  publishes : LeavesPublishes s t published
  skips : LeavesSkips s t published
  run : LeavesRun s t

theorem EvaluationLeaves.of_skip (h : EvaluationLeaves s.skip t published) (hnext : HasNext s) (hphase : s.dop.phase = .reach)
    (htime : s.reached.t < s.dop.now.toNat) : EvaluationLeaves s t published := by
  obtain ⟨hsamples, hpublishes, hskips, hrun⟩ := h
  have hbehind := hsamples.behind hphase (skip_frame s) hnext.toNat_skip_idx
  have hdue {i : Nat} (hi : s.dop.idx.toNat < i) : dueSample s.skip i = dueSample s i := dueSample_next hphase (skip_frame s) hi
  exact ⟨.of_skip hbehind hphase htime, hpublishes.of_skip (map_publishOf_congr (skip_frame s) fun i hi => hdue (hbehind.range i hi).1),
    hskips.of_skip hnext hsamples.index_le,
    hrun.of_turn (skip_frame s) rfl (fun b hb => getLsbD_or_schedPend (.inr rfl) hb) (hdue hbehind.index_lt)⟩

theorem EvaluationLeaves.of_latch (h : EvaluationLeaves s.latch t published) (hphase : s.dop.phase = .reach)
    (htime : s.dop.now.toNat ≤ s.reached.t) : EvaluationLeaves s t published := by
  obtain ⟨hsamples, hpublishes, hskips, hrun⟩ := h
  exact ⟨hsamples.of_latch hphase htime, hpublishes.of_latch hphase, hskips.of_latch,
    hrun.of_turn (latch_frame s) (State.latch_dop_drun s) (fun b _ => by rw [State.latch_ctl]) (dueSample_latch hphase _)⟩

theorem EvaluationLeaves.of_publish (h : EvaluationLeaves s.publish t published) (hnext : HasNext s) (hphase : s.dop.phase = .wait)
    (htime : s.dop.lt ≤ s.dop.now) : EvaluationLeaves s t (s.dop.idx.toNat :: published) := by
  obtain ⟨hsamples, hpublishes, hskips, hrun⟩ := h
  have hbehind := hsamples.behind rfl (publish_frame s) hnext.toNat_publish_idx
  have hdue {i : Nat} (hi : s.dop.idx.toNat < i) : dueSample s.publish i = dueSample s i := dueSample_next rfl (publish_frame s) hi
  exact ⟨.of_publish hbehind hphase htime,
    hpublishes.of_publish hphase (map_publishOf_congr (publish_frame s) fun i hi => hdue (hbehind.range i hi).1),
    hskips.of_publish hnext hsamples.index_le,
    hrun.of_turn (publish_frame s) rfl (fun b hb => getLsbD_or_schedPend (.inl rfl) hb) (hdue hbehind.index_lt)⟩

end

/-- R212-R216: every evaluation handles its samples one by one, publishing some of them. -/
theorem exists_evaluationLeaves {s : State} (hle : s.dop.idx.toNat ≤ s.dop.cnt.toNat) :
    ∃ published, EvaluationLeaves s (schedEval s) published := by
  refine schedEval_induction (motive := fun s t => ∃ published, EvaluationLeaves s t published) ?_ ?_ ?_ ?_ ?_ ?_ s hle
  · exact fun s hle hstop =>
      ⟨[], handlesSamples_nil hle rfl, leavesPublishes_nil rfl rfl rfl rfl, leavesSkips_nil rfl rfl rfl, leavesRun_stopped hstop⟩
  · exact fun s hrun hend => ⟨[], handlesSamples_nil (congrArg BitVec.toNat hend).le rfl, leavesPublishes_nil rfl rfl rfl (by simp [irqDDone]),
      leavesSkips_nil rfl rfl (by simp [irqDDone]), leavesRun_runDone hrun hend⟩
  · exact fun s t hnext hphase htime ⟨published, h⟩ => ⟨published, h.of_skip hnext hphase htime⟩
  · exact fun s t _ hphase htime ⟨published, h⟩ => ⟨published, h.of_latch hphase htime⟩
  · exact fun s t hnext hphase htime ⟨published, h⟩ => ⟨_, h.of_publish hnext hphase htime⟩
  · exact fun s hnext hphase htime => ⟨[], handlesSamples_nil hnext.index.le rfl, leavesPublishes_nil rfl rfl rfl rfl, leavesSkips_nil rfl rfl rfl,
      leavesRun_waits hnext hphase htime⟩

/-- R57, R214: with a last publish, the shift registers and the timestamp are that sample's. -/
theorem LeavesPublishes.outputs_last {s t : State} {published : List Nat} (h : LeavesPublishes s t published) {i : Nat}
    (hi : published.getLast? = some i) : t.outputs = (publishOf s i).outputs := by
  obtain ⟨rest, rfl⟩ := List.getLast?_eq_some_iff.1 hi
  rw [h.outputs, List.map_append, List.foldl_append]
  rfl

/-- R60, R191: a due sample's time fits its register. -/
theorem toNat_ofNat_dueSample (s : State) (i : Nat) : (BitVec.ofNat 64 (dueSample s i).t).toNat = (dueSample s i).t := by
  unfold dueSample
  split
  · exact Nat.mod_eq_of_lt s.dop.lt.isLt
  · exact (sampleAt_latched _ _ _).1

/-- R22, R193: the millihertz of a shift fit its register. -/
theorem toInt_enc64_millihertz (f : DWord) (r : Int) : (enc64 (millihertz f r)).toInt = millihertz f r := by
  rw [← shift_eq_millihertz, toInt_enc64_shift, shift_eq_millihertz]

/-- Settles O55: the samples an evaluation publishes, and what each kind of turn adds to the whole. -/
theorem publishesUseTheCurrentTimeAndLiveCarriers : Obligations.PublishesUseTheCurrentTimeAndLiveCarriers := by
  unfold Obligations.PublishesUseTheCurrentTimeAndLiveCarriers
  intro s hle
  obtain ⟨published, hsamples, hpublishes, hskips, hrun⟩ := exists_evaluationLeaves hle
  refine ⟨hsamples.index_le, hsamples.index_le_count, published, hsamples.ordered, fun i hi => ?_, hsamples.passed, hsamples.onTime,
    hpublishes.history, fun i hi => ?_, fun hnone => ?_, hpublishes.counter, hskips.counter, hskips.length_le, hpublishes.pending, hskips.pending,
    hrun.pending, hrun.others, schedEval_stopped s, hrun.finished, fun ht => ?_⟩
  · obtain ⟨hlow, hhigh⟩ := hsamples.range i hi
    exact ⟨hlow, hhigh, hsamples.due i hi⟩
  · obtain ⟨hdl, hul, hpt⟩ : (schedEval s).dop.dl = enc64 (publishOf s i).dl ∧ (schedEval s).dop.ul = enc64 (publishOf s i).ul ∧
        (schedEval s).dop.pt = (publishOf s i).t := by
      simpa only [State.outputs, Publish.outputs, Prod.mk.injEq] using hpublishes.outputs_last hi
    rw [hdl, hul, hpt]
    exact ⟨toInt_enc64_millihertz _ _, toInt_enc64_millihertz _ _, toNat_ofNat_dueSample s i⟩
  · subst hnone
    simpa only [State.outputs, List.map_nil, List.foldl_nil, Prod.mk.injEq] using hpublishes.outputs
  · obtain ⟨hphase, hlt, hahead⟩ := hrun.waiting ht
    exact ⟨hphase, hlt, hahead, hrun.latched ht⟩

end Sys2Proof.Machine

/-! ## Well-spaced samples are published on time (43_doppler.md R218 (d)) -/

namespace Sys2Proof.Machine

open Sys2Proof.Claim

/-- R211: the state with its time advanced by a tick, before the evaluation. -/
def State.ticked (s : State) : State := { s with dop := { s.dop with now := s.dop.now + BitVec.ofNat 64 Config.tickNs } }

section
variable {s : State}

theorem tickStep_eq (s : State) : tickStep s = schedEval s.ticked := rfl

/-- R211: a tick that does not wrap adds its nanoseconds. -/
theorem toNat_ticked_now (hwrap : s.dop.now.toNat + 10 < 2 ^ 64) : s.ticked.dop.now.toNat = s.dop.now.toNat + 10 := by
  rw [State.ticked, tick_now, BitVec.toNat_ofNat, Nat.mod_eq_of_lt hwrap]

/-- R212: while the latched sample's time is still ahead, a tick only advances the time. -/
theorem tickStep_ahead (hnext : HasNext s) (hwait : s.dop.phase = .wait) (hwrap : s.dop.now.toNat + 10 < 2 ^ 64)
    (hahead : s.dop.now.toNat + 10 < s.dop.lt.toNat) : tickStep s = s.ticked := by
  have hticked : HasNext s.ticked := ⟨hnext.run, hnext.index⟩
  exact (tickStep_eq s).trans (schedEval_waits hticked hwait (show s.ticked.dop.now.toNat < s.dop.lt.toNat by rwa [toNat_ticked_now hwrap]))

/-- R214: a tick that reaches the latched sample's time publishes it and goes on from there. -/
theorem tickStep_due (hnext : HasNext s) (hwait : s.dop.phase = .wait) (hwrap : s.dop.now.toNat + 10 < 2 ^ 64)
    (hdue : s.dop.lt.toNat ≤ s.dop.now.toNat + 10) : tickStep s = schedEval s.ticked.publish := by
  have hticked : HasNext s.ticked := ⟨hnext.run, hnext.index⟩
  exact (tickStep_eq s).trans (schedEval_publish hticked hwait (show s.dop.lt.toNat ≤ s.ticked.dop.now.toNat by rwa [toNat_ticked_now hwrap]))

/-- R216: after the last sample the run is over. -/
theorem schedEval_publish_last (hrun : s.dop.drun = true) (hlast : s.dop.idx.toNat + 1 = s.dop.cnt.toNat) :
    schedEval s.publish = s.publish.runDone := by
  have hidx : (s.dop.idx + 1).toNat = s.dop.cnt.toNat := (toNat_index_succ (cnt := s.dop.cnt) (by omega)).trans hlast
  exact schedEval_finished hrun (BitVec.eq_of_toNat_eq hidx)

/-- R212: a next sample whose time is still ahead is latched and waited for. -/
theorem schedEval_publish_next (hrun : s.dop.drun = true) (hmore : s.dop.idx.toNat + 1 < s.dop.cnt.toNat)
    (hahead : s.dop.now.toNat < s.publish.reached.t) : schedEval s.publish = s.publish.latch := by
  have hidx := HasNext.toNat_publish_idx (s := s) ⟨hrun, by omega⟩
  have hnext : HasNext s.publish := ⟨hrun, hidx ▸ hmore⟩
  have hpassed : s.publish.passed = false := by rw [passed_of_reach rfl]; exact decide_eq_false (not_lt.2 hahead.le)
  have hlt : s.publish.latch.dop.now.toNat < s.publish.latch.dop.lt.toNat := by
    rw [State.latch_dop_now, State.latch_dop_lt_of_reach _ rfl, State.reached, (sampleAt_latched _ _ _).1]
    exact hahead
  rw [schedEval_latch hnext hpassed, schedEval_waits hnext.latch (State.latch_dop_phase _) hlt]

/-- R214: what every turn after a publish keeps of it: the record, the index, the skips and its pending bit. -/
structure PublishedOnce (s t : State) : Prop where
  history : t.history = s.publish.history
  index : t.dop.idx = s.publish.dop.idx
  skips : t.dop.skipn = s.dop.skipn
  pending : t.ctl.irqPend.getLsbD 3 = true

theorem publish_pending (s : State) : s.publish.ctl.irqPend.getLsbD 3 = true := by simp [irqDPub]

theorem publishedOnce_runDone (s : State) : PublishedOnce s s.publish.runDone := by
  refine ⟨rfl, rfl, rfl, ?_⟩
  rw [State.runDone_ctl_irqPend, BitVec.getLsbD_or, publish_pending, Bool.true_or]

theorem publishedOnce_latch (s : State) : PublishedOnce s s.publish.latch :=
  ⟨State.latch_history _, State.latch_dop_idx _, State.latch_dop_skipn _, by rw [State.latch_ctl, publish_pending]⟩

/-- R216, R218 (d): after a publish with the next sample, if there is one, still ahead, the evaluation ends at once: waiting for that sample,
or with the run over. -/
theorem schedEval_publish_cases (hnext : HasNext s)
    (hspaced : s.dop.idx.toNat + 1 < s.dop.cnt.toNat → s.dop.now.toNat < (sampleAt s.buf s.dop.base.toNat (s.dop.idx.toNat + 1)).t) :
    PublishedOnce s (schedEval s.publish) ∧
      (s.dop.idx.toNat + 1 < s.dop.cnt.toNat → (schedEval s.publish).dop.drun = true ∧ (schedEval s.publish).dop.phase = .wait ∧
        (schedEval s.publish).dop.lt.toNat = (sampleAt s.buf s.dop.base.toNat (s.dop.idx.toNat + 1)).t) ∧
      (s.dop.idx.toNat + 1 = s.dop.cnt.toNat → (schedEval s.publish).dop.drun = false ∧ (schedEval s.publish).ctl.irqPend.getLsbD 5 = true) := by
  obtain hmore | hlast : s.dop.idx.toNat + 1 < s.dop.cnt.toNat ∨ s.dop.idx.toNat + 1 = s.dop.cnt.toNat := Nat.lt_or_eq_of_le hnext.index
  · have hreached : s.publish.reached = sampleAt s.buf s.dop.base.toNat (s.dop.idx.toNat + 1) := by
      rw [State.reached, State.publish_dop_idx, toNat_index_succ hnext.index]
      rfl
    rw [schedEval_publish_next hnext.run hmore (hreached ▸ hspaced hmore)]
    refine ⟨publishedOnce_latch s, fun _ => ⟨(State.latch_dop_drun _).trans hnext.run, State.latch_dop_phase _, ?_⟩, fun h => absurd h hmore.ne⟩
    rw [State.latch_dop_lt_of_reach _ rfl, hreached, (sampleAt_latched _ _ _).1]
  · rw [schedEval_publish_last hnext.run hlast]
    exact ⟨publishedOnce_runDone s, fun h => absurd hlast h.ne, fun _ => ⟨rfl, by simp [irqDDone]⟩⟩

end

/-- Settles O56: a tick before the latched time only advances the time; a tick that reaches it publishes once, and finds the next sample still
ahead, since that one comes a tick later. -/
theorem wellSpacedSamplesAreNeverSkipped : Obligations.WellSpacedSamplesAreNeverSkipped := by
  unfold Obligations.WellSpacedSamplesAreNeverSkipped
  intro s hrun hwait hahead hwrap hindex hspaced
  have hnext : HasNext s := ⟨hrun, hindex⟩
  have hlater : s.dop.now.toNat < s.dop.lt.toNat := hahead
  have hnow := toNat_ticked_now hwrap
  obtain hdue | hearly := le_or_gt s.dop.lt.toNat (s.dop.now.toNat + 10)
  · have hnextSpaced (hmore : s.dop.idx.toNat + 1 < s.dop.cnt.toNat) :
        s.ticked.dop.now.toNat < (sampleAt s.buf s.dop.base.toNat (s.dop.idx.toNat + 1)).t := by
      have := hspaced hmore
      omega
    obtain ⟨⟨hhistory, hidx, hskips, hpending⟩, hmore, hlast⟩ := schedEval_publish_cases (s := s.ticked) ⟨hrun, hindex⟩ hnextSpaced
    rw [tickStep_due hnext hwait hwrap hdue]
    refine ⟨hskips, fun _ => ⟨?_, ?_, hpending, hmore, hlast⟩, fun h => absurd h (not_lt.2 hdue)⟩
    · rw [hhistory, State.publish_history, ← publishOf_latched (s := s.ticked) hwait, publishOf, dueSample_of_wait (s := s.ticked) hwait,
        BitVec.ofNat_toNat, BitVec.setWidth_eq]
      rfl
    · rw [hidx]
      exact toNat_index_succ hindex
  · rw [tickStep_ahead hnext hwait hwrap hearly]
    exact ⟨rfl, fun h => absurd hearly (not_lt.2 h), fun _ => ⟨rfl, rfl, hrun⟩⟩

end Sys2Proof.Machine

/-! ## DINTERP: the interpolated table (43_doppler.md R191, R192, R200) -/

namespace Sys2Proof.Machine

open Sys2Proof.Claim

/-! ### Sample records in BUF (R191) -/

/-- R190: the sample's fields fit a record's. -/
structure Sample.Fits (x : Sample) : Prop where
  time : x.t < 2 ^ 64
  rateLow : -(2 ^ 63) ≤ x.r
  rateHigh : x.r < 2 ^ 63

/-- R190, R191: a sample read from BUF fits. -/
theorem sampleAt_fits (m : Memory) (a i : Nat) : (sampleAt m a i).Fits := by
  obtain ⟨ht, hr⟩ := sampleAt_latched m a i
  exact ⟨ht ▸ BitVec.isLt _, hr ▸ BitVec.le_toInt _, hr ▸ BitVec.toInt_lt⟩

theorem Memory.read_writeBytes_apart (m : Memory) (a : Nat) (bs : List Byte) (b n : Nat) (h : b + n ≤ a ∨ a + bs.length ≤ b) :
    (m.writeBytes a bs).read b n = m.read b n := congrArg leValue (Memory.bytes_writeBytes_apart m a bs b n h)

theorem Memory.read_writeBytes_same (m : Memory) (a n v : Nat) : (m.writeBytes a (leBytes n v)).read a n = v % 256 ^ n :=
  read_store_same { State.reset with buf := m } a n v

/-- R191: bytes stored apart from a sample's record leave the sample alone. -/
theorem sampleAt_writeBytes_apart (m : Memory) (a : Nat) (bs : List Byte) (b i : Nat) (h : b + 16 * i + 16 ≤ a ∨ a + bs.length ≤ b + 16 * i) :
    sampleAt (m.writeBytes a bs) b i = sampleAt m b i := by
  rw [sampleAt, sampleAt, Memory.read_writeBytes_apart _ _ _ _ _ (by omega), Memory.read_writeBytes_apart _ _ _ _ _ (by omega)]

/-- R191: a stored record reads back as its sample. -/
theorem sampleAt_writeBytes_record (m : Memory) (a : Nat) {x : Sample} (h : x.Fits) : sampleAt (m.writeBytes a x.record) a 0 = x := by
  have htime : (m.writeBytes a x.record).read a 8 = x.t := by
    rw [Sample.record, Memory.writeBytes_append, Memory.read_writeBytes_apart _ _ _ _ _ (by rw [leBytes_length]; omega),
      Memory.read_writeBytes_same]
    exact Nat.mod_eq_of_lt h.time
  have hrate : (m.writeBytes a x.record).read (a + 8) 8 = (enc64 x.r).toNat := by
    rw [Sample.record, Memory.writeBytes_append, leBytes_length, Memory.read_writeBytes_same]
    exact Nat.mod_eq_of_lt (enc64 x.r).isLt
  rw [sampleAt, Nat.mul_zero, Nat.add_zero, htime, hrate, BitVec.ofNat_toNat, BitVec.setWidth_eq, enc64_toInt _ h.rateLow h.rateHigh]

/-- R191, R200: a stored table reads back sample by sample. -/
theorem sampleAt_writeBytes_records (m : Memory) (a : Nat) {xs : List Sample} {i : Nat} {x : Sample} (hi : xs[i]? = some x) (h : x.Fits) :
    sampleAt (m.writeBytes a (xs.flatMap Sample.record)) a i = x := by
  induction xs generalizing m a i with
  | nil => cases hi
  | cons y rest ih =>
    rw [List.flatMap_cons, Memory.writeBytes_append, record_length]
    cases i with
    | zero =>
      obtain rfl : y = x := by simpa using hi
      rw [sampleAt_writeBytes_apart _ _ _ _ _ (by omega), sampleAt_writeBytes_record m a h]
    | succ i =>
      have hshift (m' : Memory) : sampleAt m' a (i + 1) = sampleAt m' (a + 16) i := by
        rw [sampleAt, sampleAt, show a + 16 * (i + 1) = a + 16 + 16 * i by omega]
      rw [hshift]
      exact ih _ _ (by simpa using hi)

/-! ### Interpolation (R192) -/

/-- R192: a fraction below 1 of a distance, product before division, stays within the distance. -/
theorem fraction_bounds {j cps : Nat} (hj : j < cps) {d : Int} (hd : 0 ≤ d) : 0 ≤ (j * d : Int).tdiv cps ∧ (j * d : Int).tdiv cps ≤ d := by
  have hnonneg : 0 ≤ (j * d : Int) := Int.mul_nonneg (Int.natCast_nonneg j) hd
  rw [Int.tdiv_eq_ediv_of_nonneg hnonneg]
  have hle : (j * d : Int) ≤ d * cps := by
    rw [Int.mul_comm d]
    exact Int.mul_le_mul_of_nonneg_right (by omega) hd
  exact ⟨Int.ediv_nonneg hnonneg (Int.natCast_nonneg cps), Int.ediv_le_of_le_mul (by omega) hle⟩

/-- R200: every intermediate time and rate lies between those of its pair, so it fits a record. -/
theorem subSample_fits {x y : Sample} (hx : x.Fits) (hy : y.Fits) {cps j : Nat} (hj : j < cps) : (subSample x y cps j).Fits := by
  obtain ⟨hxt, hxlow, hxhigh⟩ := hx
  obtain ⟨hyt, hylow, hyhigh⟩ := hy
  have htime : j * (y.t - x.t) / cps ≤ y.t - x.t := Nat.div_le_of_le_mul (Nat.mul_le_mul_right _ hj.le)
  have hrate : min x.r y.r ≤ x.r + (j * (y.r - x.r) : Int).tdiv cps ∧ x.r + (j * (y.r - x.r) : Int).tdiv cps ≤ max x.r y.r := by
    obtain hup | hdown := Int.le_total 0 (y.r - x.r)
    · have := fraction_bounds hj hup
      omega
    · have := fraction_bounds hj (Int.neg_nonneg_of_nonpos hdown)
      rw [Int.mul_neg, Int.neg_tdiv] at this
      omega
  exact ⟨by simp only [subSample]; omega, by simp only [subSample]; omega, by simp only [subSample]; omega⟩

/-- R192: output sample `i * cps + j` is the sub-sample `j` of pair `i`. -/
theorem interp_getElem?_pair {cps j : Nat} (hj : j < cps) {xs : List Sample} {i : Nat} {x y : Sample} (hx : xs[i]? = some x)
    (hy : xs[i + 1]? = some y) : (interp cps xs)[i * cps + j]? = some (subSample x y cps j) := by
  induction xs generalizing i with
  | nil => cases hx
  | cons a rest ih =>
    cases rest with
    | nil => simp at hy
    | cons b rest =>
      rw [interp]
      cases i with
      | zero =>
        obtain rfl : a = x := by simpa using hx
        obtain rfl : b = y := by simpa using hy
        rw [List.getElem?_append_left (by simpa using hj)]
        simp [hj]
      | succ i =>
        have hindex : (i + 1) * cps + j = cps + (i * cps + j) := by rw [Nat.succ_mul]; omega
        rw [hindex, List.getElem?_append_right (by simp), List.length_map, List.length_range, Nat.add_sub_cancel_left]
        exact ih (by simpa using hx) (by simpa using hy)

/-- R192: the last output sample is the last input sample. -/
theorem interp_getElem?_last (cps : Nat) (xs : List Sample) : (interp cps xs)[(xs.length - 1) * cps]? = xs[xs.length - 1]? := by
  induction xs with
  | nil => rfl
  | cons a rest ih =>
    cases rest with
    | nil => simp [interp]
    | cons b rest =>
      have hindex : ((a :: b :: rest).length - 1) * cps = cps + ((b :: rest).length - 1) * cps := by
        simp only [List.length_cons, Nat.add_sub_cancel, Nat.succ_mul]
        omega
      rw [interp, hindex, List.getElem?_append_right (by simp), List.length_map, List.length_range, Nat.add_sub_cancel_left, ih]
      rfl

theorem samplesAt_getElem? {m : Memory} {a n i : Nat} (h : i < n) : (samplesAt m a n)[i]? = some (sampleAt m a i) := by
  simp [samplesAt, h]

/-- R192, R200: the timestamps of a table strictly increase when each is below the next. -/
theorem strictlyIncreasing_iff (xs : List Sample) :
    strictlyIncreasing xs = true ↔ ∀ k x y, xs[k]? = some x → xs[k + 1]? = some y → x.t < y.t := by
  induction xs with
  | nil => simp [strictlyIncreasing]
  | cons a rest ih =>
    cases rest with
    | nil => simp [strictlyIncreasing]
    | cons b rest =>
      rw [strictlyIncreasing, Bool.and_eq_true, decide_eq_true_iff, ih]
      constructor
      · rintro ⟨hhead, htail⟩ k x y hx hy
        cases k with
        | zero =>
          obtain rfl : a = x := by simpa using hx
          obtain rfl : b = y := by simpa using hy
          exact hhead
        | succ k => exact htail k x y (by simpa using hx) (by simpa using hy)
      · exact fun h => ⟨h 0 a b rfl rfl, fun k x y hx hy => h (k + 1) x y (by simpa using hx) (by simpa using hy)⟩

/-- R200: the table a `DINTERP` reads rises. -/
def Rises (m : Memory) (a n : Nat) : Prop := ∀ k, k + 1 < n → (sampleAt m a k).t < (sampleAt m a (k + 1)).t

theorem strictlyIncreasing_samplesAt_iff (m : Memory) (a n : Nat) : strictlyIncreasing (samplesAt m a n) = true ↔ Rises m a n := by
  rw [strictlyIncreasing_iff]
  constructor
  · exact fun h k hk => h k _ _ (samplesAt_getElem? (by omega)) (samplesAt_getElem? hk)
  · intro h k x y hx hy
    have hk : k + 1 < n := by
      have := (List.getElem?_eq_some_iff.1 hy).1
      simpa [samplesAt] using this
    rw [samplesAt_getElem? (by omega)] at hx
    rw [samplesAt_getElem? hk] at hy
    rw [← Option.some.inj hx, ← Option.some.inj hy]
    exact h k hk

/-! ### The command (R200) -/

section
variable {s : State}

theorem dinterpRule_of_zero (h : s.a3 = 0) : dinterpRule s = .error .invalidConfig := if_pos h

theorem dinterpRule_of_outOfBounds (h : s.a3 ≠ 0)
    (hb : inBounds s.a0 (16 * s.a1) = false ∨ inBounds s.a2 (16 * interpCount s.a1 s.a3) = false) : dinterpRule s = .error .bounds :=
  (if_neg h).trans (if_pos hb)

section
variable (h : s.a3 ≠ 0) (hsrc : inBounds s.a0 (16 * s.a1) = true) (hdst : inBounds s.a2 (16 * interpCount s.a1 s.a3) = true)
include h hsrc hdst

theorem dinterpRule_of_inBounds : dinterpRule s =
    if strictlyIncreasing (samplesAt s.buf s.a0 s.a1) = false then .error .notMonotonic
    else .ok ((s.store s.a2 ((interp s.a3 (samplesAt s.buf s.a0 s.a1)).flatMap Sample.record)).setRes0 (interpCount s.a1 s.a3)) :=
  (if_neg h).trans (if_neg (not_or.2 ⟨ne_false_of_eq_true hsrc, ne_false_of_eq_true hdst⟩))

theorem dinterpRule_of_not_rises (hrises : ¬ Rises s.buf s.a0 s.a1) : dinterpRule s = .error .notMonotonic := by
  rw [← strictlyIncreasing_samplesAt_iff, Bool.not_eq_true] at hrises
  rw [dinterpRule_of_inBounds h hsrc hdst, if_pos hrises]

theorem dinterpRule_of_rises (hrises : Rises s.buf s.a0 s.a1) : dinterpRule s =
    .ok ((s.store s.a2 ((interp s.a3 (samplesAt s.buf s.a0 s.a1)).flatMap Sample.record)).setRes0 (interpCount s.a1 s.a3)) := by
  rw [← strictlyIncreasing_samplesAt_iff] at hrises
  rw [dinterpRule_of_inBounds h hsrc hdst, if_neg (ne_false_of_eq_true hrises)]

end

end

/-- R191, R192: `m` holds at `dst` the interpolation of the `n` samples that `src` holds at `a`. -/
structure HoldsInterp (m : Memory) (dst : Nat) (src : Memory) (a n cps : Nat) : Prop where
  pair : ∀ i j, i + 1 < n → j < cps → sampleAt m dst (i * cps + j) = subSample (sampleAt src a i) (sampleAt src a (i + 1)) cps j
  last : 1 ≤ n → sampleAt m dst ((n - 1) * cps) = sampleAt src a (n - 1)

/-- R200: the records a `DINTERP` stores read back as the interpolation, read from BUF as it stood. -/
theorem holdsInterp_writeBytes (m : Memory) (dst : Nat) (src : Memory) (a n cps : Nat) :
    HoldsInterp (m.writeBytes dst ((interp cps (samplesAt src a n)).flatMap Sample.record)) dst src a n cps where
  pair i j hi hj := by
    have hpair := interp_getElem?_pair hj (samplesAt_getElem? (m := src) (a := a) (i := i) (by omega)) (samplesAt_getElem? hi)
    exact sampleAt_writeBytes_records m dst hpair (subSample_fits (sampleAt_fits _ _ _) (sampleAt_fits _ _ _) hj)
  last hn := by
    have hlen : (samplesAt src a n).length = n := by simp [samplesAt]
    have hlast := interp_getElem?_last cps (samplesAt src a n)
    rw [hlen, samplesAt_getElem? (by omega)] at hlast
    exact sampleAt_writeBytes_records m dst hlast (sampleAt_fits _ _ _)

/-- Settles O47: the rule's cases, each by its lemma; a success stores the interpolation's records, which read back as they are. -/
theorem dinterpInterpolatesTheTable : Obligations.DinterpInterpolatesTheTable := by
  unfold Obligations.DinterpInterpolatesTheTable
  refine ⟨decodeOfEncodeIsTheInstruction .dinterp rfl, fun s => ⟨fun h => exec_failed (i := .dinterp) (dinterpRule_of_zero h),
    fun h hb => exec_failed (i := .dinterp) (dinterpRule_of_outOfBounds h hb),
    fun h hsrc hdst hrises => exec_failed (i := .dinterp) (dinterpRule_of_not_rises h hsrc hdst hrises), fun h hsrc hdst hrises => ?_⟩⟩
  obtain ⟨hpair, hlast⟩ := holdsInterp_writeBytes s.buf s.a2 s.buf s.a0 s.a1 s.a3
  exact ⟨_, exec_of_ok (i := .dinterp) (dinterpRule_of_rises h hsrc hdst hrises), hpair, hlast,
    keepsOutside_of_buf rfl (interp_records_length s.buf s.a0 s.a1 s.a3), complete_setRes0_ctl rfl _, keepsUnits_store s _ _ _⟩

end Sys2Proof.Machine

/-! ## The engine's step, and NOP (44_control.md R230, R231) -/

namespace Sys2Proof.Machine

/-- R231: the engine's execution of a word that decodes is its command's. -/
theorem engineStep_of_decode {i : Instr} {s : State} (h : decode s.ctl.cmd = .ok i) : engineStep s = exec i s := by
  rw [engineStep, h]

/-- Settles O6: with a command pending, the step of each of the three agendas is the engine's, which executes the decoded command; what the
engine's turn takes off the agenda leaves the pending word. -/
theorem stepRunsTheDecodedCommand : Obligations.StepRunsTheDecodedCommand := by
  unfold Obligations.StepRunsTheDecodedCommand
  intro s i hbusy hdecode
  have hengine : engineStep s = exec i s := engineStep_of_decode hdecode
  refine ⟨fun ha => ?_, fun rest ha => ?_, fun a rest ha hheld => ?_⟩
  · exact (step_idle_busy ha hbusy).trans hengine
  · have hword : decode { s with agenda := rest }.ctl.cmd = .ok i := hdecode
    exact (step_engine_busy ha hbusy).trans (engineStep_of_decode hword)
  · exact (step_held ha hheld).trans hengine

/-- R230, R241: `NOP` is its completion with OK. -/
theorem exec_nop (s : State) : exec .nop s = .next (s.complete none) := exec_of_ok (i := .nop) rfl

/-- R230, R240: with NOP's word pending, OK's `RESULT` is 0: opcode 0x00 and code 0x00. -/
theorem resultWord_nop_ok : resultWord (encode .nop) none = 0x00000000 := by decide

/-- Settles O7: the word decodes as its own encoding, and `NOP`'s completion with OK changes `RESULT`, CMD_DONE and `BUSY` only. -/
theorem nopOnlyCompletes : Obligations.NopOnlyCompletes := by
  unfold Obligations.NopOnlyCompletes
  refine ⟨decodeOfEncodeIsTheInstruction .nop rfl, fun s hcmd => ?_⟩
  have hresult : resultWord s.ctl.cmd none = 0x00000000 := by rw [hcmd, resultWord_nop_ok]
  rw [exec_nop, State.complete, hresult]
  rfl

end Sys2Proof.Machine

/-! ## How a command ends (60_exceptions.md R240-R243) -/

namespace Sys2Proof.Machine

open Sys2Proof.Claim

/-- Settles O9: an execution either ends with OK, or it is its own state failed with the error's code. -/
theorem failingCommandChangesOnlyCompletionState : Obligations.FailingCommandChangesOnlyCompletionState := by
  unfold Obligations.FailingCommandChangesOnlyCompletionState
  intro i s t h hcode
  obtain ⟨r, -, rfl⟩ | ⟨e, -, rfl⟩ := exec_next_cases h
  · exact absurd (codeOf_complete r none) hcode
  · rw [codeOf_complete]
    exact complete_error_eq_failed s e

/-! ### The completion actions (R241) -/

/-- R241: what a command's rule leaves alone of the control block: all but `RES0`, `RES1` and the Doppler unit's pending bits 3 to 5. -/
structure KeepsCommand (s t : State) : Prop where
  ctl : t.ctl = { s.ctl with res0 := t.ctl.res0, res1 := t.ctl.res1, irqPend := t.ctl.irqPend }
  pending : ∀ b < 3, t.ctl.irqPend.getLsbD b = s.ctl.irqPend.getLsbD b

theorem KeepsCommand.of_eq {s t : State} (h : t.ctl = s.ctl) : KeepsCommand s t := ⟨by rw [h], fun _ _ => by rw [h]⟩

theorem KeepsCommand.setRes0 {s r : State} {v : Nat} (h : KeepsCommand s r) : KeepsCommand s (r.setRes0 v) where
  ctl := by simp only [State.setRes0]; rw [h.ctl]
  pending := h.pending

theorem KeepsCommand.setRes1 {s r : State} {v : Nat} (h : KeepsCommand s r) : KeepsCommand s (r.setRes1 v) where
  ctl := by simp only [State.setRes1]; rw [h.ctl]
  pending := h.pending

/-- R202, R248: the run that DSTART sets up stands at index 0, so its evaluation goes by the loop's lemmas, and sets bits 3 to 5 only. -/
theorem keepsCommand_startRun (s : State) (base count : Word) : KeepsCommand s (schedEval (s.startRun base count)) := by
  have hframe := schedEval_frame (s.startRun base count)
  obtain ⟨_, heval⟩ := exists_evaluationLeaves (s := s.startRun base count) (Nat.zero_le _)
  exact ⟨by rw [hframe.ctl]; rfl, heval.run.others⟩

/-- R241: the rule of every command keeps the command word, the operands, the enables and the pending bits of commands. -/
theorem keepsCommand_ruleOf {i : Instr} {s t : State} (h : ruleOf i s = .ok t) : KeepsCommand s t := by
  cases i with
  | nop | genc | gdec | dshift => cases h; exact .of_eq rfl
  | dstop => cases h; exact .setRes0 (.of_eq rfl)
  | pcfg u sel => obtain ⟨-, -, rfl⟩ := pcfgRule_ok h; exact .of_eq (State.setPrbs_ctl s u _)
  | pgen u => obtain ⟨-, -, rfl⟩ := pgenRule_ok h; exact .setRes0 (.of_eq (State.setPrbs_ctl _ u _))
  | pgeno u => obtain ⟨-, -, rfl⟩ := pgenoRule_ok h; exact .setRes0 (.of_eq rfl)
  | pseq u => obtain ⟨-, -, -, -, rfl⟩ := pseqRule_ok h; exact .setRes0 (.of_eq rfl)
  | gencf => obtain ⟨-, -, -, rfl⟩ := gencfRule_ok h; exact .setRes0 (.of_eq rfl)
  | gdecf => obtain ⟨-, -, -, -, rfl⟩ := gdecfRule_ok h; exact .setRes1 (.setRes0 (.of_eq rfl))
  | vcfg => obtain ⟨-, -, -, -, rfl⟩ := vcfgRule_ok h; exact .of_eq rfl
  | vseen => obtain ⟨-, rfl⟩ := vseenRule_ok h; exact .of_eq rfl
  | vpkt => obtain ⟨-, -, -, rfl⟩ := vpktRule_ok h; exact .setRes1 (.setRes0 (.of_eq rfl))
  | vfin => obtain ⟨-, rfl⟩ := vfinRule_ok h; exact .setRes1 (.setRes0 (.of_eq rfl))
  | dinterp => obtain ⟨-, -, -, -, rfl⟩ := dinterpRule_ok h; exact .setRes0 (.of_eq rfl)
  | dstart => obtain ⟨-, -, -, rfl⟩ := dstartRule_ok h; exact keepsCommand_startRun s _ _

/-- R241, R248: the pending bits that a completion sets: CMD_DONE always, CMD_ERR with a code other than OK, CMD_OVR never. -/
theorem donePend_getLsbD (e : Option CmdError) : (donePend e).getLsbD 0 = true ∧
    (donePend e).getLsbD 1 = decide (resultCode e ≠ 0) ∧ (donePend e).getLsbD 2 = false := by
  cases e with
  | none => decide
  | some e =>
    have herr : resultCode (some e) ≠ 0 := fun h => nomatch (resultCode_eq_zero _).1 h
    have hpend : donePend (some e) = 0b000011 := rfl
    rw [hpend, decide_eq_true herr]
    decide

/-- R241: completing a state that has kept the command ends the command's execution. -/
theorem endsWithCompletion_complete {s r : State} (h : KeepsCommand s r) (e : Option CmdError) : endsWithCompletion s (r.complete e) := by
  obtain ⟨hdone, herr, hovr⟩ := donePend_getLsbD e
  unfold endsWithCompletion
  simp only [codeOf_complete, State.complete_ctl_irqPend, BitVec.getLsbD_or, hdone, herr, hovr, h.pending 1 (by decide),
    h.pending 2 (by decide), Bool.or_true, Bool.or_false]
  refine ⟨rfl, ?_, resultCode_le e, trivial, trivial, trivial, ?_⟩
  · rw [State.complete_ctl_result, h.ctl]
    rfl
  · simp only [State.complete_ctl_irqEn, State.complete_ctl_arg0, State.complete_ctl_arg1, State.complete_ctl_arg2,
      State.complete_ctl_arg3]
    rw [h.ctl]
    exact ⟨rfl, rfl, rfl, rfl, rfl⟩

/-- R241: a command's execution ends with the completion actions, whether its rule reaches its end or raises an error. -/
theorem endsWithCompletion_exec {i : Instr} {s t : State} (h : exec i s = .next t) : endsWithCompletion s t := by
  obtain ⟨r, hr, rfl⟩ | ⟨e, -, rfl⟩ := exec_next_cases h
  · exact endsWithCompletion_complete (keepsCommand_ruleOf hr) none
  · exact endsWithCompletion_complete (.of_eq rfl) (some e)

/-- R107, R241: the engine's execution of the pending word, legal or not, ends with the completion actions. -/
theorem endsWithCompletion_engineStep {s t : State} (h : engineStep s = .next t) : endsWithCompletion s t := by
  unfold engineStep at h
  split at h
  · exact endsWithCompletion_exec h
  · cases h
    exact endsWithCompletion_complete (.of_eq rfl) (some .illegalCmd)

/-- Settles O8: an execution completes its rule's end state, which has kept the command, or the state it began in. -/
theorem everyCommandEndsWithCompletion : Obligations.EveryCommandEndsWithCompletion := by
  unfold Obligations.EveryCommandEndsWithCompletion
  refine ⟨fun i s => ?_, fun s => ?_⟩
  · obtain ⟨t, ht⟩ := exec_next i s
    exact ⟨t, ht, endsWithCompletion_exec ht⟩
  · obtain ⟨t, ht⟩ := engineStep_next s
    exact ⟨t, ht, endsWithCompletion_engineStep ht⟩

/-! ### The lowest code wins (R240, R242) -/

/-- R240: the conditions of a command with the codes they raise, in the order in which its rule tests them. -/
def conditions (s : State) : Instr → List (CmdError × Prop)
  | .pcfg _ _ => [(.invalidConfig, s.a0 = 0 ∨ Config.maxCycleLen < s.a0)]
  | .pgen u | .pgeno u => [(.notConfigured, (s.prbs u).len = 0), (.bounds, inBounds s.a0 (byteCount s.a1) = false)]
  | .pseq u => [(.notConfigured, (s.prbs u).len = 0), (.invalidConfig, s.a2 = 0 ∨ s.a2 % 8 ≠ 0),
      (.bounds, inBounds s.a0 (4 + s.a2 / 8) = false)]
  | .gencf => [(.framing, s.a1 % 3 ≠ 0), (.bounds, inBounds s.a0 s.a1 = false ∨ inBounds s.a2 (8 + 2 * s.a1) = false)]
  | .gdecf => [(.framing, s.a1 < 8 ∨ (s.a1 - 8) % 3 ≠ 0),
      (.bounds, inBounds s.a0 s.a1 = false ∨ inBounds s.a2 (golayOutLen ((s.a1 - 8) / 3)) = false)]
  | .vcfg => [(.invalidConfig, s.a0 = 0 ∨ Config.maxExpected < s.a0 ∨ s.a1 = 0 ∨ s.a1 % 8 ≠ 0)]
  | .vseen | .vfin => [(.notConfigured, s.ver.expect = 0)]
  | .vpkt => [(.notConfigured, s.ver.expect = 0 ∨ s.prbs1.len = 0), (.bounds, inBounds s.a0 s.a1 = false)]
  | .dinterp => [(.invalidConfig, s.a3 = 0),
      (.bounds, inBounds s.a0 (16 * s.a1) = false ∨ inBounds s.a2 (16 * interpCount s.a1 s.a3) = false),
      (.notMonotonic, strictlyIncreasing (samplesAt s.buf s.a0 s.a1) = false)]
  | .dstart => [(.bounds, inBounds s.a0 (16 * s.a1) = false), (.schedBusy, s.dop.drun = true), (.emptyPlan, s.a1 = 0)]
  | .nop | .genc | .gdec | .dshift | .dstop => []

/-- `r` is what testing conditions in order answers: the error of the first that holds, or an end state when none does. -/
inductive FirstError : List (CmdError × Prop) → Except CmdError State → Prop where
  | done (r : State) : FirstError [] (.ok r)
  | raises {c : Prop} (e : CmdError) (cs : List (CmdError × Prop)) (hc : c) : FirstError ((e, c) :: cs) (.error e)
  | passes {c : Prop} (e : CmdError) {cs : List (CmdError × Prop)} {r : Except CmdError State} (hc : ¬ c) (h : FirstError cs r) :
      FirstError ((e, c) :: cs) r

theorem FirstError.ite {c : Prop} [Decidable c] {e : CmdError} {cs : List (CmdError × Prop)} {r : Except CmdError State} (h : FirstError cs r) :
    FirstError ((e, c) :: cs) (if c then .error e else r) := by
  split
  · next hc => exact .raises e cs hc
  · next hc => exact .passes e hc h

/-- R240, R242: each command's rule tests its conditions in order. -/
theorem firstError_ruleOf (i : Instr) (s : State) : FirstError (conditions s i) (ruleOf i s) := by
  cases i with
  | nop | genc | gdec | dshift | dstop => exact .done _
  | pcfg | vcfg | vseen | vfin => exact .ite (.done _)
  | pgen | pgeno | gencf | gdecf | vpkt => exact .ite (.ite (.done _))
  | pseq | dinterp | dstart => exact .ite (.ite (.ite (.done _)))

/-- R242: each command's conditions stand in the order of their codes. -/
theorem conditions_sorted (s : State) (i : Instr) :
    (conditions s i).Pairwise fun c d => (resultCode (some c.1)).toNat ≤ (resultCode (some d.1)).toNat := by
  cases i <;> simp [conditions, resultCode]

/-- R200: `DINTERP`'s test of its input is R240's: some sample's time does not come after its predecessor's. -/
theorem strictlyIncreasing_samplesAt_eq_false_iff (m : Memory) (a n : Nat) : strictlyIncreasing (samplesAt m a n) = false ↔
    ∃ k, k + 1 < n ∧ (sampleAt m a (k + 1)).t ≤ (sampleAt m a k).t := by
  rw [← Bool.not_eq_true, strictlyIncreasing_samplesAt_iff]
  simp [Rises]

/-- R240: the conditions that a rule tests are those of the table. -/
theorem errorHolds_iff (s : State) (i : Instr) (e : CmdError) : errorHolds s i e ↔ ∃ p ∈ conditions s i, p.1 = e ∧ p.2 := by
  cases i with
  | nop | genc | gdec | dshift | dstop => cases e <;> simp [errorHolds, conditions]
  | pcfg u sel => cases e <;> simp [errorHolds, conditions, Config.maxCycleLen]
  | pgen u | pgeno u => cases e <;> simp [errorHolds, conditions, byteCount]
  | pseq u | gencf | vseen | vfin | vpkt | dstart => cases e <;> simp [errorHolds, conditions]
  | gdecf => cases e <;> simp [errorHolds, conditions, golayOutLen, byteCount]
  | vcfg =>
    cases e with
    | invalidConfig =>
      simp only [errorHolds, conditions, Config.maxExpected, List.mem_singleton, exists_eq_left, true_and]
      omega
    | _ => simp [errorHolds, conditions]
  | dinterp => cases e <;> simp [errorHolds, conditions, interpCount, strictlyIncreasing_samplesAt_eq_false_iff]

theorem FirstError.not_of_ok {cs : List (CmdError × Prop)} {r : State} (h : FirstError cs (.ok r)) : ∀ p ∈ cs, ¬ p.2 := by
  induction cs with
  | nil => simp
  | cons q cs ih =>
    cases h with
    | passes _ hc h => exact List.forall_mem_cons.2 ⟨hc, ih h⟩

theorem FirstError.exists_of_error {cs : List (CmdError × Prop)} {e : CmdError} (h : FirstError cs (.error e)) : ∃ p ∈ cs, p.1 = e ∧ p.2 := by
  induction cs with
  | nil => cases h
  | cons q cs ih =>
    cases h with
    | raises _ _ hc => exact ⟨_, List.mem_cons_self, rfl, hc⟩
    | passes _ _ h =>
      obtain ⟨p, hp, hholds⟩ := ih h
      exact ⟨p, List.mem_cons_of_mem _ hp, hholds⟩

/-- R242: where the conditions stand in the order of their codes, the first that holds has the lowest code. -/
theorem FirstError.le_of_error {cs : List (CmdError × Prop)} {e : CmdError} (h : FirstError cs (.error e))
    (hsorted : cs.Pairwise fun c d => (resultCode (some c.1)).toNat ≤ (resultCode (some d.1)).toNat) :
    ∀ p ∈ cs, p.2 → (resultCode (some e)).toNat ≤ (resultCode (some p.1)).toNat := by
  induction cs with
  | nil => simp
  | cons q cs ih =>
    obtain ⟨hhead, htail⟩ := List.pairwise_cons.1 hsorted
    cases h with
    | raises => exact List.forall_mem_cons.2 ⟨fun _ => le_rfl, fun p hp _ => hhead p hp⟩
    | passes _ hc h => exact List.forall_mem_cons.2 ⟨fun hq => absurd hq hc, ih h htail⟩

/-- R240: a command whose rule reaches its end meets no error condition. -/
theorem not_errorHolds_of_ok {i : Instr} {s r : State} (h : ruleOf i s = .ok r) (e : CmdError) : ¬ errorHolds s i e := by
  have hfirst : FirstError (conditions s i) (.ok r) := h ▸ firstError_ruleOf i s
  rw [errorHolds_iff]
  rintro ⟨p, hp, -, hholds⟩
  exact hfirst.not_of_ok p hp hholds

/-- R240: the error that a command's rule raises is one of its conditions that holds. -/
theorem errorHolds_of_error {i : Instr} {s : State} {e : CmdError} (h : ruleOf i s = .error e) : errorHolds s i e := by
  have hfirst : FirstError (conditions s i) (.error e) := h ▸ firstError_ruleOf i s
  exact (errorHolds_iff s i e).2 hfirst.exists_of_error

/-- R242: the error that a command's rule raises has the lowest code among those that hold. -/
theorem le_of_errorHolds {i : Instr} {s : State} {e f : CmdError} (h : ruleOf i s = .error e) (hf : errorHolds s i f) :
    (resultCode (some e)).toNat ≤ (resultCode (some f)).toNat := by
  have hfirst : FirstError (conditions s i) (.error e) := h ▸ firstError_ruleOf i s
  obtain ⟨p, hp, rfl, hholds⟩ := (errorHolds_iff s i f).1 hf
  exact hfirst.le_of_error (conditions_sorted s i) p hp hholds

/-- R240: code 0x01 is `ILLEGAL_CMD`'s alone. -/
theorem resultCode_eq_one (e : Option CmdError) : resultCode e = 0x01 ↔ e = some .illegalCmd := by
  cases e with
  | none => decide
  | some e => cases e <;> decide

/-- R242: no command that decodes raises `ILLEGAL_CMD`. -/
theorem not_errorHolds_illegalCmd (i : Instr) (s : State) : ¬ errorHolds s i .illegalCmd := by simp [errorHolds]

theorem codeOf_exec_ne_one {i : Instr} {s t : State} (h : exec i s = .next t) : codeOf t ≠ 0x01 := by
  obtain ⟨r, -, rfl⟩ | ⟨e, he, rfl⟩ := exec_next_cases h
  · rw [codeOf_complete]
    decide
  · rw [codeOf_complete, Ne, resultCode_eq_one]
    rintro ⟨⟩
    exact not_errorHolds_illegalCmd i s (errorHolds_of_error he)

/-- R107, R242: the engine answers `ILLEGAL_CMD` exactly for an illegal word. -/
theorem codeOf_engineStep_eq_one_iff {s t : State} (h : engineStep s = .next t) : codeOf t = 0x01 ↔ legalWord s.ctl.cmd = false := by
  cases hlegal : legalWord s.ctl.cmd with
  | false =>
    have hcomplete : engineStep s = .next (s.complete (some .illegalCmd)) := engineStep_illegal hlegal
    rw [hcomplete] at h
    cases h
    exact iff_of_true (codeOf_complete s _) rfl
  | true =>
    obtain ⟨i, hdecode⟩ := (wordDecodesExactlyWhenLegal _).2 hlegal
    rw [engineStep_of_decode hdecode] at h
    exact iff_of_false (codeOf_exec_ne_one h) (by decide)

/-- Settles O10: each rule tests the table's conditions in the order of their codes, and raises the first that holds. -/
theorem lowestErrorCodeWins : Obligations.LowestErrorCodeWins := by
  unfold Obligations.LowestErrorCodeWins
  refine ⟨fun i s => ?_, fun s => ?_⟩
  · cases hrule : ruleOf i s with
    | ok r => exact ⟨_, exec_of_ok hrule, .inl ⟨codeOf_complete r none, not_errorHolds_of_ok hrule⟩⟩
    | error e =>
      exact ⟨_, exec_of_error hrule, .inr ⟨e, errorHolds_of_error hrule, codeOf_complete s _, fun f => le_of_errorHolds hrule⟩⟩
  · obtain ⟨t, ht⟩ := engineStep_next s
    exact ⟨t, ht, codeOf_engineStep_eq_one_iff ht⟩

end Sys2Proof.Machine

/-! ## Ticks between the two reads of a 64-bit register, and soft reset (70_reset_and_hazards.md R281, R285) -/

namespace Sys2Proof.Machine

/-- R88, R285: a tick leaves the read shadows alone, whatever it publishes. -/
@[simp] theorem tickStep_rsh (s : State) : (tickStep s).rsh = s.rsh := (schedEval_frame _).rsh

/-- R88, R285: so does any number of ticks. -/
theorem iterate_tickStep_rsh (k : Nat) (s : State) : (tickStep^[k] s).rsh = s.rsh := by
  induction k generalizing s with
  | zero => rfl
  | succ k ih => rw [Function.iterate_succ_apply, ih, tickStep_rsh]

/-- R65: each register's read shadow is a field of `S.rsh`. -/
theorem readShadow_eq_of_rsh_eq {s t : State} (h : t.rsh = s.rsh) (r : Reg64) : t.readShadow r = s.readShadow r := by
  cases r <;> simp only [State.readShadow, h]

/-- R88, R285: `_HI` reads, after any number of ticks, the high half that the read of `_LO` latched. -/
theorem readReg_hi_after_ticks (s : State) (r : Reg64) (k : Nat) :
    readReg (tickStep^[k] (afterRead s (.lo r))) (.hi r) = (s.get64 r).extractLsb' 32 32 :=
  calc (tickStep^[k] (afterRead s (.lo r))).readShadow r
    _ = (afterRead s (.lo r)).readShadow r := readShadow_eq_of_rsh_eq (iterate_tickStep_rsh k _) r
    _ = (s.get64 r).extractLsb' 32 32 := State.latchRead_readShadow s r _

/-- Settles O18: the read of `_LO` returns the low half and latches the high half, and no tick touches the latch. -/
theorem ticksDoNotTearA64BitRead : Obligations.TicksDoNotTearA64BitRead := by
  unfold Obligations.TicksDoNotTearA64BitRead
  intro s r k
  rw [readReg_hi_after_ticks]
  exact (BitVec.extractLsb'_append_extractLsb'_eq_extractLsb' rfl).trans BitVec.extractLsb'_eq_self

/-- R38, R281: a write to `CTRL` with bit 0 set is a soft reset. -/
theorem writeCtrl_of_bit0 {v : Word} (h : v.getLsbD 0 = true) (s : State) : s.writeCtrl v = s.softReset := if_pos h

/-- R38: a write to `CTRL` with bit 0 clear has no effect. -/
theorem writeCtrl_of_not_bit0 {v : Word} (h : v.getLsbD 0 = false) (s : State) : s.writeCtrl v = s := if_neg (ne_true_of_eq_false h)

/-- R38, R87: a word write at offset 0x018, busy or not, is the write to `CTRL`, answered with data 0 (log 9). -/
theorem step_writeCtrl {s : State} {rest : List Event} {v : Word} (ha : s.agenda = .host (.write 0x018 4 v) :: rest) :
    step s = .next ((State.writeCtrl { s with agenda := rest } v).respond 0) :=
  step_writeReg (r := .ctrl) ha

/-- Settles O23, by the value of bit 0: the write is a soft reset or nothing, and the answer comes after it. -/
theorem softResetKeepsOnlyBufAndHistory : Obligations.SoftResetKeepsOnlyBufAndHistory := by
  unfold Obligations.SoftResetKeepsOnlyBufAndHistory
  intro s rest v ha
  refine ⟨fun hset => ?_, fun hclear => ?_, rfl⟩
  · rw [step_writeCtrl ha, writeCtrl_of_bit0 hset]
    rfl
  · rw [step_writeCtrl ha, writeCtrl_of_not_bit0 hclear]
    rfl

end Sys2Proof.Machine

/-! ## The register map has no two registers at one offset (10_state.md section 2) -/

namespace Sys2Proof.Machine

/-- Settles O19: the map finds each register at its own offset, and that offset is aligned and in register space. -/
theorem registerMapIsUnambiguous : Obligations.RegisterMapIsUnambiguous := by
  unfold Obligations.RegisterMapIsUnambiguous
  intro r
  exact ⟨regAt_regOffset r, regOffset_aligned_lt r⟩

end Sys2Proof.Machine
